-- ==== Sys2Proof/Word.lean ====
section
/-! DEFINITION. The words of the block: bytes, bus addresses and trace words (00_scope.md R9; 20_memory.md R80, R84;
30_encoding.md R112). -/
namespace Sys2Proof

/-- The addressable unit and the only access width (R84, R89). -/
abbrev Byte := BitVec 8

/-- A bus address of the host (R80). -/
abbrev Addr := BitVec 16

/-- A trace word: one host operation (R112). -/
abbrev TraceWord := BitVec 32

end Sys2Proof
end

