-- ==== Sys2Proof/Syntax.lean ====
section
/-! DEFINITION. The names of the 20 control registers with a stored byte, and the 49 host operations, one constructor
per row of opcode_table.json (30_encoding.md R110, R112; 10_state.md R21). -/
namespace Sys2Proof

/-- The 20 control registers that hold a stored byte (10_state.md R21). NR52 is not one of them: it has no stored
byte (R45). -/
inductive CtrlReg where
  | nr10 | nr11 | nr12 | nr13 | nr14
  | nr21 | nr22 | nr23 | nr24 | nr30
  | nr31 | nr32 | nr33 | nr34 | nr41
  | nr42 | nr43 | nr44 | nr50 | nr51
  deriving DecidableEq, Repr

/-- Every control register once, in ascending address order. -/
def CtrlReg.all : List CtrlReg :=
  [.nr10, .nr11, .nr12, .nr13, .nr14, .nr21, .nr22, .nr23, .nr24, .nr30,
   .nr31, .nr32, .nr33, .nr34, .nr41, .nr42, .nr43, .nr44, .nr50, .nr51]

/-- The host operations (R110). The data byte of a `WR` and the `hasBIOS` bit of `RESET` are operands; the wave RAM
forms carry the index `addr[3:0]`; the unmapped forms carry the address. -/
inductive Instr where
  /-- `STEP` (R340). -/
  | step
  /-- `WR NR10, v` (R191). -/
  | wrNr10 (v : Byte)
  /-- `WR NR11, v` (R151). -/
  | wrNr11 (v : Byte)
  /-- `WR NR12, v` (R152). -/
  | wrNr12 (v : Byte)
  /-- `WR NR13, v` (R153). -/
  | wrNr13 (v : Byte)
  /-- `WR NR14, v` (R154). -/
  | wrNr14 (v : Byte)
  /-- `WR NR21, v` (R171). -/
  | wrNr21 (v : Byte)
  /-- `WR NR22, v` (R172). -/
  | wrNr22 (v : Byte)
  /-- `WR NR23, v` (R173). -/
  | wrNr23 (v : Byte)
  /-- `WR NR24, v` (R174). -/
  | wrNr24 (v : Byte)
  /-- `WR NR30, v` (R211). -/
  | wrNr30 (v : Byte)
  /-- `WR NR31, v` (R212). -/
  | wrNr31 (v : Byte)
  /-- `WR NR32, v` (R213). -/
  | wrNr32 (v : Byte)
  /-- `WR NR33, v` (R214). -/
  | wrNr33 (v : Byte)
  /-- `WR NR34, v` (R216). -/
  | wrNr34 (v : Byte)
  /-- `WR NR41, v` (R236). -/
  | wrNr41 (v : Byte)
  /-- `WR NR42, v` (R237). -/
  | wrNr42 (v : Byte)
  /-- `WR NR43, v` (R238). -/
  | wrNr43 (v : Byte)
  /-- `WR NR44, v` (R239). -/
  | wrNr44 (v : Byte)
  /-- `WR NR50, v` (R311). -/
  | wrNr50 (v : Byte)
  /-- `WR NR51, v` (R312). -/
  | wrNr51 (v : Byte)
  /-- `WR NR52, v` (R286). -/
  | wrNr52 (v : Byte)
  /-- `WR WAVE[k], v` (R230). -/
  | wrWave (k : BitVec 4) (v : Byte)
  /-- `WR a, v` at an unmapped address (R282). -/
  | wrUnmapped (a : Addr) (v : Byte)
  /-- `RD NR10` (R192). -/
  | rdNr10
  /-- `RD NR11` (R175). -/
  | rdNr11
  /-- `RD NR12` (R176). -/
  | rdNr12
  /-- `RD NR13` (R177). -/
  | rdNr13
  /-- `RD NR14` (R178). -/
  | rdNr14
  /-- `RD NR21` (R179). -/
  | rdNr21
  /-- `RD NR22` (R180). -/
  | rdNr22
  /-- `RD NR23` (R181). -/
  | rdNr23
  /-- `RD NR24` (R182). -/
  | rdNr24
  /-- `RD NR30` (R217). -/
  | rdNr30
  /-- `RD NR31` (R218). -/
  | rdNr31
  /-- `RD NR32` (R219). -/
  | rdNr32
  /-- `RD NR33` (R220). -/
  | rdNr33
  /-- `RD NR34` (R221). -/
  | rdNr34
  /-- `RD NR41` (R240). -/
  | rdNr41
  /-- `RD NR42` (R241). -/
  | rdNr42
  /-- `RD NR43` (R243). -/
  | rdNr43
  /-- `RD NR44` (R244). -/
  | rdNr44
  /-- `RD NR50` (R313). -/
  | rdNr50
  /-- `RD NR51` (R314). -/
  | rdNr51
  /-- `RD NR52` (R292). -/
  | rdNr52
  /-- `RD WAVE[k]` (R231). -/
  | rdWave (k : BitVec 4)
  /-- `RD a` at an unmapped address (R283). -/
  | rdUnmapped (a : Addr)
  /-- `SAMPLE` (R320). -/
  | sample
  /-- `RESET b`, b = `hasBIOS` (R345). -/
  | reset (hasBIOS : Bool)
  deriving DecidableEq, Repr

/-- The `WR` operation of a control register. -/
def Instr.ofWrite (x : CtrlReg) (v : Byte) : Instr :=
  match x with
  | .nr10 => .wrNr10 v
  | .nr11 => .wrNr11 v
  | .nr12 => .wrNr12 v
  | .nr13 => .wrNr13 v
  | .nr14 => .wrNr14 v
  | .nr21 => .wrNr21 v
  | .nr22 => .wrNr22 v
  | .nr23 => .wrNr23 v
  | .nr24 => .wrNr24 v
  | .nr30 => .wrNr30 v
  | .nr31 => .wrNr31 v
  | .nr32 => .wrNr32 v
  | .nr33 => .wrNr33 v
  | .nr34 => .wrNr34 v
  | .nr41 => .wrNr41 v
  | .nr42 => .wrNr42 v
  | .nr43 => .wrNr43 v
  | .nr44 => .wrNr44 v
  | .nr50 => .wrNr50 v
  | .nr51 => .wrNr51 v

/-- The `RD` operation of a control register. -/
def Instr.ofRead (x : CtrlReg) : Instr :=
  match x with
  | .nr10 => .rdNr10
  | .nr11 => .rdNr11
  | .nr12 => .rdNr12
  | .nr13 => .rdNr13
  | .nr14 => .rdNr14
  | .nr21 => .rdNr21
  | .nr22 => .rdNr22
  | .nr23 => .rdNr23
  | .nr24 => .rdNr24
  | .nr30 => .rdNr30
  | .nr31 => .rdNr31
  | .nr32 => .rdNr32
  | .nr33 => .rdNr33
  | .nr34 => .rdNr34
  | .nr41 => .rdNr41
  | .nr42 => .rdNr42
  | .nr43 => .rdNr43
  | .nr44 => .rdNr44
  | .nr50 => .rdNr50
  | .nr51 => .rdNr51

end Sys2Proof
end

