-- ==== Sys2Proof/Machine/AddressMap.lean ====
section
/-! DEFINITION. The address map (20_memory.md R82, R85, R86, marked there as general knowledge: PRESUMED, log entry 9) and the
address decoder (30_encoding.md R116). -/
namespace Sys2Proof

/-- The bus address of each control register (R82). -/
def CtrlReg.addr : CtrlReg → Addr
  | .nr10 => 0xFF10
  | .nr11 => 0xFF11
  | .nr12 => 0xFF12
  | .nr13 => 0xFF13
  | .nr14 => 0xFF14
  | .nr21 => 0xFF16
  | .nr22 => 0xFF17
  | .nr23 => 0xFF18
  | .nr24 => 0xFF19
  | .nr30 => 0xFF1A
  | .nr31 => 0xFF1B
  | .nr32 => 0xFF1C
  | .nr33 => 0xFF1D
  | .nr34 => 0xFF1E
  | .nr41 => 0xFF20
  | .nr42 => 0xFF21
  | .nr43 => 0xFF22
  | .nr44 => 0xFF23
  | .nr50 => 0xFF24
  | .nr51 => 0xFF25

/-- The bus address of NR52 (R82). -/
def nr52Addr : Addr := 0xFF26

/-- The bus address of wave RAM byte `k`, 0xFF30 + k (R24). -/
def waveAddr (k : BitVec 4) : Addr := 0xFF3#12 ++ k

/-- What a bus address names: a control register with a stored byte, NR52, a wave RAM byte, or nothing. -/
inductive Target where
  | ctrl (x : CtrlReg)
  | nr52
  | wave (k : BitVec 4)
  | unmapped
  deriving DecidableEq, Repr

/-- The address decoder (R116, order of the tests as in 45_register_file.md R276): `addr[15:4]` compared with 0xFF3
for the wave RAM, all 16 bits for the 21 control registers, everything else unmapped. -/
def targetOf (a : Addr) : Target :=
  if a.extractLsb' 4 12 = 0xFF3#12 then .wave (a.extractLsb' 0 4)
  else if a = nr52Addr then .nr52
  else
    match CtrlReg.all.find? (fun x => x.addr == a) with
    | some x => .ctrl x
    | none => .unmapped

/-- Unmapped addresses (R85, R86): every address that names nothing. -/
def isUnmapped (a : Addr) : Bool := targetOf a == .unmapped

end Sys2Proof
end

