-- ==== Sys2Proof/Config.lean ====
section
/-! DEFINITION. The constants the source fixes (00_scope.md R6) and the parameters it leaves to the implementation
(R7), as one record. The values this spec takes are in Machine/Tables.lean (`Config.params`). -/
namespace Sys2Proof

/-- Master clock rate in Hz: one `STEP` per cycle (R6). -/
def fMaster : Nat := 4194304
/-- Rate in Hz at which the output pair is latched (R6). -/
def fSample : Nat := 44100
/-- Frame sequencer counter reload, in master cycles (R6). -/
def fsPeriod : Nat := 8192

/-- The two variants a `model` selector may name (00_scope.md R8; 47_top_level.md R344). -/
inductive Model where
  | base
  | extended
  deriving DecidableEq, Repr

/-- The two values of `WAVE_LEN_MAX` (R7; 90_conflicts.md C3). -/
inductive WaveLen where
  | len64
  | len256
  deriving DecidableEq, Repr

/-- `WAVE_LEN_MAX` as a number. -/
def WaveLen.toNat : WaveLen → Nat
  | .len64 => 64
  | .len256 => 256

/-- The parameters left to the implementation (R7). -/
structure Config where
  /-- `DUTY_TABLE[d][s]`: is step `s` of pattern `d` high. -/
  dutyTable : BitVec 2 → BitVec 3 → Bool
  /-- `NOISE_DIVISOR[c]`. -/
  noiseDivisor : BitVec 3 → Nat
  /-- `READ_MASK`: the byte ORed into a stored byte on a read. -/
  readMask : CtrlReg → Byte
  /-- `BOOT_DEFAULTS`: the ordered writes of `RESET 0`, as bus address and byte. -/
  bootDefaults : List (Addr × Byte)
  /-- `WAVE_LEN_MAX`. -/
  waveLenMax : WaveLen
  /-- `MIX_SCALE(sum, volume)`. -/
  mixScale : Nat → Nat → Nat
  /-- `MODEL`. -/
  model : Model

/-- Steps of pattern `d` that are high. -/
def Config.highSteps (c : Config) (d : BitVec 2) : Nat :=
  ((List.range 8).filter fun s => c.dutyTable d (BitVec.ofNat 3 s)).length

/-- The bits of a control register that are write-only or unused, field by field (10_state.md R25 to R44; their
places are PRESUMED, log entry 9). -/
def CtrlReg.hiddenBits : CtrlReg → Byte
  | .nr10 => 0b10000000
  | .nr11 => 0b00111111
  | .nr12 => 0b00000000
  | .nr13 => 0b11111111
  | .nr14 => 0b10000000 ||| 0b00111000 ||| 0b00000111
  | .nr21 => 0b00111111
  | .nr22 => 0b00000000
  | .nr23 => 0b11111111
  | .nr24 => 0b10000000 ||| 0b00111000 ||| 0b00000111
  | .nr30 => 0b01111111
  | .nr31 => 0b11111111
  | .nr32 => 0b10000000 ||| 0b00011111
  | .nr33 => 0b11111111
  | .nr34 => 0b10000000 ||| 0b00111000 ||| 0b00000111
  | .nr41 => 0b11000000 ||| 0b00111111
  | .nr42 => 0b00000000
  | .nr43 => 0b00000000
  | .nr44 => 0b10000000 ||| 0b00111111
  | .nr50 => 0b00000000
  | .nr51 => 0b00000000

/-- The eleven boot defaults of control registers that are the source's own (70_reset_and_hazards.md R394, the rows
marked "yes"). -/
def sourceDefaults : List (CtrlReg × Byte) :=
  [ (.nr10, 0x80), (.nr11, 0xBF), (.nr12, 0xF3), (.nr13, 0xFF), (.nr14, 0xBF), (.nr24, 0xBF), (.nr30, 0x7F),
    (.nr34, 0xBF), (.nr44, 0xBF), (.nr50, 0x77), (.nr51, 0xF3) ]

/-- The twelfth, of NR52. -/
def sourcePowerDefault : Byte := 0xF1

/-- The "must hold" column of R7 and the constraints that end 92_eei_decisions.md, for the parameters a claim may
want to leave open. The bound 127 on a divisor is the model's (DESIGN CHOICE, log entry 10): a 22-bit
timer holds `divisor << 15` (R48). `WAVE_LEN_MAX` is limited by its type; that the boot list as a whole reads back
is `Machine.BootReadsBack` (Safety.lean), which needs the machine. -/
structure Config.Valid (c : Config) : Prop where
  duty : c.highSteps 0 = 1 ∧ c.highSteps 1 = 2 ∧ c.highSteps 2 = 4 ∧ c.highSteps 3 = 6
  divisor : ∀ d, 0 < c.noiseDivisor d ∧ c.noiseDivisor d ≤ 127
  /-- "Reads of write-only or unused bit positions return 1" -/
  maskHides : ∀ x, c.readMask x &&& x.hiddenBits = x.hiddenBits
  /-- every default of the source reads back as itself -/
  maskKeepsDefaults : ∀ p ∈ sourceDefaults, p.2 ||| c.readMask p.1 = p.2
  /-- NR52 is written first -/
  bootPowersFirst : c.bootDefaults.head? = some (nr52Addr, sourcePowerDefault)
  /-- the other values of the source are written, each by the only write to its register -/
  bootDefaults : ∀ p ∈ sourceDefaults, c.bootDefaults.filter (fun w => w.1 == p.1.addr) = [(p.1.addr, p.2)]
  scaleRange : ∀ sum vol, sum ≤ 60 → vol ≤ 7 → c.mixScale sum vol ≤ 255
  scaleZero : ∀ vol, c.mixScale 0 vol = 0
  /-- the extended model is refused (R8) -/
  model : c.model = .base
  scaleMono : ∀ sum sum' vol vol', sum ≤ sum' → vol ≤ vol' → c.mixScale sum vol ≤ c.mixScale sum' vol'

end Sys2Proof
end

