-- ==== Sys2Proof/WellFormed.lean ====
section
/-! DEFINITION. Well-formed operations: the two unmapped forms carry an unmapped address (opcode_table.json, rows
WR_UNMAPPED and RD_UNMAPPED, matched last; 30_encoding.md R116, R132). Every other operation is well formed for
every operand (R131). -/
namespace Sys2Proof

/-- Well-formedness of an operation. -/
def Instr.wf : Instr → Bool
  | .wrUnmapped a _ => isUnmapped a
  | .rdUnmapped a => isUnmapped a
  | .wrNr10 _ => true
  | .wrNr11 _ => true
  | .wrNr12 _ => true
  | .wrNr13 _ => true
  | .wrNr14 _ => true
  | .wrNr21 _ => true
  | .wrNr22 _ => true
  | .wrNr23 _ => true
  | .wrNr24 _ => true
  | .wrNr30 _ => true
  | .wrNr31 _ => true
  | .wrNr32 _ => true
  | .wrNr33 _ => true
  | .wrNr34 _ => true
  | .wrNr41 _ => true
  | .wrNr42 _ => true
  | .wrNr43 _ => true
  | .wrNr44 _ => true
  | .wrNr50 _ => true
  | .wrNr51 _ => true
  | .wrNr52 _ => true
  | .wrWave _ _ => true
  | .rdNr10 => true
  | .rdNr11 => true
  | .rdNr12 => true
  | .rdNr13 => true
  | .rdNr14 => true
  | .rdNr21 => true
  | .rdNr22 => true
  | .rdNr23 => true
  | .rdNr24 => true
  | .rdNr30 => true
  | .rdNr31 => true
  | .rdNr32 => true
  | .rdNr33 => true
  | .rdNr34 => true
  | .rdNr41 => true
  | .rdNr42 => true
  | .rdNr43 => true
  | .rdNr44 => true
  | .rdNr50 => true
  | .rdNr51 => true
  | .rdNr52 => true
  | .rdWave _ => true
  | .step => true
  | .sample => true
  | .reset _ => true

end Sys2Proof
end

