-- ==== Sys2Proof/Decode.lean ====
section
/-! DEFINITION. Trace words (30_encoding.md R112 to R116, R130, R135): the decoder, total on every 32-bit word and
refusing by name, and the encoder. The word is the spec's notation, not a signal of the hardware (R112). -/
namespace Sys2Proof

/-- Why a trace word is no operation (R130). -/
inductive DecodeError where
  /-- `kind` is 5..15. -/
  | reservedKind
  /-- `zero` (bits 27:24) is not 0. -/
  | zeroFieldNotZero
  /-- The `addr` field of `STEP`, `SAMPLE` or `RESET` is not 0. -/
  | addrMustBeZero
  /-- The must-be-zero bits of the `data` field are not 0. -/
  | dataMustBeZero
  deriving DecidableEq, Repr

/-- Bits 31:28 (R112). -/
def kindOf (w : TraceWord) : BitVec 4 := w.extractLsb' 28 4
/-- Bits 27:24 (R112). -/
def zeroOf (w : TraceWord) : BitVec 4 := w.extractLsb' 24 4
/-- Bits 23:8 (R112). -/
def addrOf (w : TraceWord) : Addr := w.extractLsb' 8 16
/-- Bits 7:0 (R112). -/
def dataOf (w : TraceWord) : Byte := w.extractLsb' 0 8

/-- The `WR` operation an address and a data byte name (R114, R116). -/
def writeInstr (a : Addr) (v : Byte) : Instr :=
  match targetOf a with
  | .ctrl x => Instr.ofWrite x v
  | .nr52 => .wrNr52 v
  | .wave k => .wrWave k v
  | .unmapped => .wrUnmapped a v

/-- The `RD` operation an address names (R115, R116). -/
def readInstr (a : Addr) : Instr :=
  match targetOf a with
  | .ctrl x => Instr.ofRead x
  | .nr52 => .rdNr52
  | .wave k => .rdWave k
  | .unmapped => .rdUnmapped a

/-- Format CTL (R113): the `addr` field must be 0, and the `data` field must be 0 in every bit of `mask`. -/
def decodeCtl (w : TraceWord) (mask : Byte) (i : Instr) : Except DecodeError Instr :=
  if addrOf w ≠ 0 then .error .addrMustBeZero
  else if dataOf w &&& mask ≠ 0 then .error .dataMustBeZero
  else .ok i

/-- Decoding (R116). Where a word breaks R130 in several ways the name given is the first of: `zero`, `kind`,
`addr`, `data`. The spec's passages differ on a `RD` of an unmapped address with `data` not 0: R116 says that the mask of
the unmapped row covers only `kind` and `zero`, while R112, R115, R130 and the row RD_UNMAPPED of opcode_table.json (mask
0xFF0000FF) want `data` to be 0. The model refuses such a word (DEDUCED, log entry 6). -/
def decode (w : TraceWord) : Except DecodeError Instr :=
  if zeroOf w ≠ 0 then .error .zeroFieldNotZero
  else if kindOf w = 0 then decodeCtl w 0xFF .step
  else if kindOf w = 1 then .ok (writeInstr (addrOf w) (dataOf w))
  else if kindOf w = 2 then
    if dataOf w ≠ 0 then .error .dataMustBeZero else .ok (readInstr (addrOf w))
  else if kindOf w = 3 then decodeCtl w 0xFF .sample
  else if kindOf w = 4 then decodeCtl w 0xFE (.reset ((dataOf w).getLsbD 0))
  else .error .reservedKind

/-- The trace word with the given fields, `{kind, 0b0000, addr, data}` (R112). -/
def traceWord (kind : BitVec 4) (addr : Addr) (data : Byte) : TraceWord :=
  kind ++ 0#4 ++ addr ++ data

/-- The encoder (R113 to R115), written from the fields of R112 and the address map. -/
def encode : Instr → TraceWord
  | .step => traceWord 0 0 0
  | .wrNr10 v => traceWord 1 CtrlReg.nr10.addr v
  | .wrNr11 v => traceWord 1 CtrlReg.nr11.addr v
  | .wrNr12 v => traceWord 1 CtrlReg.nr12.addr v
  | .wrNr13 v => traceWord 1 CtrlReg.nr13.addr v
  | .wrNr14 v => traceWord 1 CtrlReg.nr14.addr v
  | .wrNr21 v => traceWord 1 CtrlReg.nr21.addr v
  | .wrNr22 v => traceWord 1 CtrlReg.nr22.addr v
  | .wrNr23 v => traceWord 1 CtrlReg.nr23.addr v
  | .wrNr24 v => traceWord 1 CtrlReg.nr24.addr v
  | .wrNr30 v => traceWord 1 CtrlReg.nr30.addr v
  | .wrNr31 v => traceWord 1 CtrlReg.nr31.addr v
  | .wrNr32 v => traceWord 1 CtrlReg.nr32.addr v
  | .wrNr33 v => traceWord 1 CtrlReg.nr33.addr v
  | .wrNr34 v => traceWord 1 CtrlReg.nr34.addr v
  | .wrNr41 v => traceWord 1 CtrlReg.nr41.addr v
  | .wrNr42 v => traceWord 1 CtrlReg.nr42.addr v
  | .wrNr43 v => traceWord 1 CtrlReg.nr43.addr v
  | .wrNr44 v => traceWord 1 CtrlReg.nr44.addr v
  | .wrNr50 v => traceWord 1 CtrlReg.nr50.addr v
  | .wrNr51 v => traceWord 1 CtrlReg.nr51.addr v
  | .wrNr52 v => traceWord 1 nr52Addr v
  | .wrWave k v => traceWord 1 (waveAddr k) v
  | .wrUnmapped a v => traceWord 1 a v
  | .rdNr10 => traceWord 2 CtrlReg.nr10.addr 0
  | .rdNr11 => traceWord 2 CtrlReg.nr11.addr 0
  | .rdNr12 => traceWord 2 CtrlReg.nr12.addr 0
  | .rdNr13 => traceWord 2 CtrlReg.nr13.addr 0
  | .rdNr14 => traceWord 2 CtrlReg.nr14.addr 0
  | .rdNr21 => traceWord 2 CtrlReg.nr21.addr 0
  | .rdNr22 => traceWord 2 CtrlReg.nr22.addr 0
  | .rdNr23 => traceWord 2 CtrlReg.nr23.addr 0
  | .rdNr24 => traceWord 2 CtrlReg.nr24.addr 0
  | .rdNr30 => traceWord 2 CtrlReg.nr30.addr 0
  | .rdNr31 => traceWord 2 CtrlReg.nr31.addr 0
  | .rdNr32 => traceWord 2 CtrlReg.nr32.addr 0
  | .rdNr33 => traceWord 2 CtrlReg.nr33.addr 0
  | .rdNr34 => traceWord 2 CtrlReg.nr34.addr 0
  | .rdNr41 => traceWord 2 CtrlReg.nr41.addr 0
  | .rdNr42 => traceWord 2 CtrlReg.nr42.addr 0
  | .rdNr43 => traceWord 2 CtrlReg.nr43.addr 0
  | .rdNr44 => traceWord 2 CtrlReg.nr44.addr 0
  | .rdNr50 => traceWord 2 CtrlReg.nr50.addr 0
  | .rdNr51 => traceWord 2 CtrlReg.nr51.addr 0
  | .rdNr52 => traceWord 2 nr52Addr 0
  | .rdWave k => traceWord 2 (waveAddr k) 0
  | .rdUnmapped a => traceWord 2 a 0
  | .sample => traceWord 3 0 0
  | .reset b => traceWord 4 0 (if b then 1 else 0)

/-- The trace word whose low `nbits` bits are `w`'s and whose other bits are 0 (bit 0 the least significant, as
opcode_table.json numbers them; every row of the table has 32 bits). -/
def tableWord (nbits w : Nat) : TraceWord := BitVec.ofNat 32 (w % 2 ^ nbits)

/-- The operation the decoder reads from a table word, none where it refuses. -/
def decodeTableWord (nbits w : Nat) : Option Instr :=
  match decode (tableWord nbits w) with
  | .ok i => some i
  | .error _ => none

/-! ### The opcode table (opcode_table.json)

The rows as the table gives them, for the claims that hold the decoder and the encoder against it (R116). -/

/-- A row: an operation is of the row when `word & mask` is `match`. -/
structure OpcodeRow where
  mask : TraceWord
  value : TraceWord
  deriving DecidableEq, Repr

/-- Does a word match a row. -/
def OpcodeRow.hit (r : OpcodeRow) (w : TraceWord) : Bool := w &&& r.mask == r.value

/-- The row of each operation. -/
def Instr.row : Instr → OpcodeRow
  | .step => ⟨0xFFFFFFFF, 0x00000000⟩
  | .wrNr10 _ => ⟨0xFFFFFF00, 0x10FF1000⟩
  | .wrNr11 _ => ⟨0xFFFFFF00, 0x10FF1100⟩
  | .wrNr12 _ => ⟨0xFFFFFF00, 0x10FF1200⟩
  | .wrNr13 _ => ⟨0xFFFFFF00, 0x10FF1300⟩
  | .wrNr14 _ => ⟨0xFFFFFF00, 0x10FF1400⟩
  | .wrNr21 _ => ⟨0xFFFFFF00, 0x10FF1600⟩
  | .wrNr22 _ => ⟨0xFFFFFF00, 0x10FF1700⟩
  | .wrNr23 _ => ⟨0xFFFFFF00, 0x10FF1800⟩
  | .wrNr24 _ => ⟨0xFFFFFF00, 0x10FF1900⟩
  | .wrNr30 _ => ⟨0xFFFFFF00, 0x10FF1A00⟩
  | .wrNr31 _ => ⟨0xFFFFFF00, 0x10FF1B00⟩
  | .wrNr32 _ => ⟨0xFFFFFF00, 0x10FF1C00⟩
  | .wrNr33 _ => ⟨0xFFFFFF00, 0x10FF1D00⟩
  | .wrNr34 _ => ⟨0xFFFFFF00, 0x10FF1E00⟩
  | .wrNr41 _ => ⟨0xFFFFFF00, 0x10FF2000⟩
  | .wrNr42 _ => ⟨0xFFFFFF00, 0x10FF2100⟩
  | .wrNr43 _ => ⟨0xFFFFFF00, 0x10FF2200⟩
  | .wrNr44 _ => ⟨0xFFFFFF00, 0x10FF2300⟩
  | .wrNr50 _ => ⟨0xFFFFFF00, 0x10FF2400⟩
  | .wrNr51 _ => ⟨0xFFFFFF00, 0x10FF2500⟩
  | .wrNr52 _ => ⟨0xFFFFFF00, 0x10FF2600⟩
  | .wrWave _ _ => ⟨0xFFFFF000, 0x10FF3000⟩
  | .wrUnmapped _ _ => ⟨0xFF000000, 0x10000000⟩
  | .rdNr10 => ⟨0xFFFFFFFF, 0x20FF1000⟩
  | .rdNr11 => ⟨0xFFFFFFFF, 0x20FF1100⟩
  | .rdNr12 => ⟨0xFFFFFFFF, 0x20FF1200⟩
  | .rdNr13 => ⟨0xFFFFFFFF, 0x20FF1300⟩
  | .rdNr14 => ⟨0xFFFFFFFF, 0x20FF1400⟩
  | .rdNr21 => ⟨0xFFFFFFFF, 0x20FF1600⟩
  | .rdNr22 => ⟨0xFFFFFFFF, 0x20FF1700⟩
  | .rdNr23 => ⟨0xFFFFFFFF, 0x20FF1800⟩
  | .rdNr24 => ⟨0xFFFFFFFF, 0x20FF1900⟩
  | .rdNr30 => ⟨0xFFFFFFFF, 0x20FF1A00⟩
  | .rdNr31 => ⟨0xFFFFFFFF, 0x20FF1B00⟩
  | .rdNr32 => ⟨0xFFFFFFFF, 0x20FF1C00⟩
  | .rdNr33 => ⟨0xFFFFFFFF, 0x20FF1D00⟩
  | .rdNr34 => ⟨0xFFFFFFFF, 0x20FF1E00⟩
  | .rdNr41 => ⟨0xFFFFFFFF, 0x20FF2000⟩
  | .rdNr42 => ⟨0xFFFFFFFF, 0x20FF2100⟩
  | .rdNr43 => ⟨0xFFFFFFFF, 0x20FF2200⟩
  | .rdNr44 => ⟨0xFFFFFFFF, 0x20FF2300⟩
  | .rdNr50 => ⟨0xFFFFFFFF, 0x20FF2400⟩
  | .rdNr51 => ⟨0xFFFFFFFF, 0x20FF2500⟩
  | .rdNr52 => ⟨0xFFFFFFFF, 0x20FF2600⟩
  | .rdWave _ => ⟨0xFFFFF0FF, 0x20FF3000⟩
  | .rdUnmapped _ => ⟨0xFF0000FF, 0x20000000⟩
  | .sample => ⟨0xFFFFFFFF, 0x30000000⟩
  | .reset _ => ⟨0xFFFFFFFE, 0x40000000⟩

/-- Rows 1 to 8 of the table. -/
def opcodeRows1 : List OpcodeRow :=
  [ ⟨0xFFFFFFFF, 0x00000000⟩,
    ⟨0xFFFFFF00, 0x10FF1000⟩,
    ⟨0xFFFFFF00, 0x10FF1100⟩,
    ⟨0xFFFFFF00, 0x10FF1200⟩,
    ⟨0xFFFFFF00, 0x10FF1300⟩,
    ⟨0xFFFFFF00, 0x10FF1400⟩,
    ⟨0xFFFFFF00, 0x10FF1600⟩,
    ⟨0xFFFFFF00, 0x10FF1700⟩ ]

/-- Rows 9 to 16 of the table. -/
def opcodeRows2 : List OpcodeRow :=
  [ ⟨0xFFFFFF00, 0x10FF1800⟩,
    ⟨0xFFFFFF00, 0x10FF1900⟩,
    ⟨0xFFFFFF00, 0x10FF1A00⟩,
    ⟨0xFFFFFF00, 0x10FF1B00⟩,
    ⟨0xFFFFFF00, 0x10FF1C00⟩,
    ⟨0xFFFFFF00, 0x10FF1D00⟩,
    ⟨0xFFFFFF00, 0x10FF1E00⟩,
    ⟨0xFFFFFF00, 0x10FF2000⟩ ]

/-- Rows 17 to 24 of the table. -/
def opcodeRows3 : List OpcodeRow :=
  [ ⟨0xFFFFFF00, 0x10FF2100⟩,
    ⟨0xFFFFFF00, 0x10FF2200⟩,
    ⟨0xFFFFFF00, 0x10FF2300⟩,
    ⟨0xFFFFFF00, 0x10FF2400⟩,
    ⟨0xFFFFFF00, 0x10FF2500⟩,
    ⟨0xFFFFFF00, 0x10FF2600⟩,
    ⟨0xFFFFF000, 0x10FF3000⟩,
    ⟨0xFF000000, 0x10000000⟩ ]

/-- Rows 25 to 32 of the table. -/
def opcodeRows4 : List OpcodeRow :=
  [ ⟨0xFFFFFFFF, 0x20FF1000⟩,
    ⟨0xFFFFFFFF, 0x20FF1100⟩,
    ⟨0xFFFFFFFF, 0x20FF1200⟩,
    ⟨0xFFFFFFFF, 0x20FF1300⟩,
    ⟨0xFFFFFFFF, 0x20FF1400⟩,
    ⟨0xFFFFFFFF, 0x20FF1600⟩,
    ⟨0xFFFFFFFF, 0x20FF1700⟩,
    ⟨0xFFFFFFFF, 0x20FF1800⟩ ]

/-- Rows 33 to 40 of the table. -/
def opcodeRows5 : List OpcodeRow :=
  [ ⟨0xFFFFFFFF, 0x20FF1900⟩,
    ⟨0xFFFFFFFF, 0x20FF1A00⟩,
    ⟨0xFFFFFFFF, 0x20FF1B00⟩,
    ⟨0xFFFFFFFF, 0x20FF1C00⟩,
    ⟨0xFFFFFFFF, 0x20FF1D00⟩,
    ⟨0xFFFFFFFF, 0x20FF1E00⟩,
    ⟨0xFFFFFFFF, 0x20FF2000⟩,
    ⟨0xFFFFFFFF, 0x20FF2100⟩ ]

/-- Rows 41 to 48 of the table. -/
def opcodeRows6 : List OpcodeRow :=
  [ ⟨0xFFFFFFFF, 0x20FF2200⟩,
    ⟨0xFFFFFFFF, 0x20FF2300⟩,
    ⟨0xFFFFFFFF, 0x20FF2400⟩,
    ⟨0xFFFFFFFF, 0x20FF2500⟩,
    ⟨0xFFFFFFFF, 0x20FF2600⟩,
    ⟨0xFFFFF0FF, 0x20FF3000⟩,
    ⟨0xFF0000FF, 0x20000000⟩,
    ⟨0xFFFFFFFF, 0x30000000⟩ ]

/-- Rows 49 to 49 of the table. -/
def opcodeRows7 : List OpcodeRow :=
  [ ⟨0xFFFFFFFE, 0x40000000⟩ ]

/-- The 49 rows in the table's order. -/
def opcodeRows : List OpcodeRow :=
  opcodeRows1 ++ opcodeRows2 ++ opcodeRows3 ++ opcodeRows4 ++ opcodeRows5 ++ opcodeRows6 ++ opcodeRows7

/-- The first row a word matches (R116). -/
def firstRow (w : TraceWord) : Option OpcodeRow := opcodeRows.find? fun r => r.hit w

end Sys2Proof
end

