-- ==== Sys2Proof/Machine/State.lean ====
section
/-! DEFINITION. The state of the block, exactly the list of 10_state.md R20, the host's side of it (operations still
to issue, values returned), the reasons a step can stop, and the state after reset (R70). Plain data throughout. -/
namespace Sys2Proof.Machine

/-- Memory: the bytes of wave RAM by bus address, in canonical form (strictly rising addresses, no byte equal to what
an unlisted address reads as). -/
abbrev Memory := List Host.Cell

/-- The 20 stored bytes (R21). -/
structure RegFile where
  nr10 : Byte
  nr11 : Byte
  nr12 : Byte
  nr13 : Byte
  nr14 : Byte
  nr21 : Byte
  nr22 : Byte
  nr23 : Byte
  nr24 : Byte
  nr30 : Byte
  nr31 : Byte
  nr32 : Byte
  nr33 : Byte
  nr34 : Byte
  nr41 : Byte
  nr42 : Byte
  nr43 : Byte
  nr44 : Byte
  nr50 : Byte
  nr51 : Byte
  deriving DecidableEq, Repr

/-- The working registers of a pulse channel (R47 to R49, R51 to R53). -/
structure PulseCh where
  enabled : Bool
  frequencyTimer : BitVec 14
  lengthCounter : BitVec 7
  dutyStep : BitVec 3
  currentVolume : BitVec 4
  envTimer : BitVec 3
  deriving DecidableEq, Repr

/-- The sweep unit of CH1 (R54 to R56). -/
structure SweepUnit where
  shadowFrequency : BitVec 11
  sweepTimer : BitVec 4
  sweepEnabled : Bool
  deriving DecidableEq, Repr

/-- The working registers of CH3 (R47 to R49, R57); the length counter has the 9 bits that `WAVE_LEN_MAX` = 256
would need (R20; DESIGN CHOICE, log entry 10). -/
structure WaveCh where
  enabled : Bool
  frequencyTimer : BitVec 13
  lengthCounter : BitVec 9
  position : BitVec 5
  deriving DecidableEq, Repr

/-- The working registers of CH4 (R47 to R49, R52, R53, R58). -/
structure NoiseCh where
  enabled : Bool
  frequencyTimer : BitVec 22
  lengthCounter : BitVec 7
  currentVolume : BitVec 4
  envTimer : BitVec 3
  lfsr : BitVec 15
  deriving DecidableEq, Repr

/-- The frame sequencer (R59). -/
structure FrameSeq where
  counter : BitVec 14
  step : BitVec 3
  deriving DecidableEq, Repr

/-- Every bit of state the block holds (R20). -/
structure Apu where
  /-- the stored bytes of NR10 to NR51 (R21) -/
  regs : RegFile
  /-- `apu.masterPower` (R22) -/
  masterPower : Bool
  /-- `waveRAM` (R24) -/
  waveRam : Memory
  ch1 : PulseCh
  sweep : SweepUnit
  ch2 : PulseCh
  ch3 : WaveCh
  ch4 : NoiseCh
  fs : FrameSeq
  /-- `apu.sampleTimer` (R61) -/
  sampleTimer : BitVec 22
  /-- `apu.left`, the latched left sample (R62) -/
  left : Byte
  /-- `apu.right`, the latched right sample (R62) -/
  right : Byte
  deriving DecidableEq, Repr

/-- What an operation returns to the host: a `RD` one byte, a `SAMPLE` two (20_memory.md R89). -/
inductive Answer where
  | byte (v : Byte)
  | pair (left right : Byte)
  deriving DecidableEq, Repr

/-- The machine: the block, and the host's side of the interface as plain data (DESIGN CHOICE, log entries 3 and 5). -/
structure State where
  /-- the state of the block -/
  apu : Apu
  /-- MODEL'S OWN: the host operations not yet issued, oldest first, as trace words (R95, R112) -/
  trace : List TraceWord
  /-- MODEL'S OWN: the values returned to the host, newest first (R89, R112) -/
  answers : List Answer
  deriving DecidableEq, Repr

/-- The two pulse channels (R3). -/
inductive PulseId where
  | ch1
  | ch2
  deriving DecidableEq, Repr

/-- The four channels (R3). -/
inductive ChanId where
  | ch1
  | ch2
  | ch3
  | ch4
  deriving DecidableEq, Repr

/-- The two output terminals of the mixer (46_mixer.md R310). -/
inductive Terminal where
  | left
  | right
  deriving DecidableEq, Repr

/-- Reasons to stop with a fault: there is none. "The block raises nothing" (60_exceptions.md R360); the exception
list "is empty" (R361). Nobody raises one; safe. -/
inductive Fault
  deriving DecidableEq, Repr

/-- Reasons an input is given no meaning. -/
inductive Refusal where
  /-- An arm of `exec` for an operation without a meaning. No arm answers it in this model. Safe. -/
  | notModelled (mnemonic : String)
  /-- Raised by `step` on a trace word that is no operation: "They are errors of the trace, not inputs the hardware
  can receive; a decoder refuses them by name" (30_encoding.md R130). Safe. -/
  | badTraceWord (e : DecodeError)
  /-- Raised by `step` and at the ports when `MODEL` is `extended`: "A model of the hardware must refuse `MODEL =
  extended`" (00_scope.md R8). Safe. -/
  | modelExtended
  /-- Raised at the ports when `wr` and `rd` are asserted in one cycle: "both at once is an overlap of operations and
  has no meaning" (47_top_level.md R339). Safe. -/
  | portOverlap
  deriving DecidableEq, Repr

/-- All stored bytes 0x00 (R70; also after a power-off, 45_register_file.md R285). -/
def RegFile.zero : RegFile :=
  ⟨0#8, 0#8, 0#8, 0#8, 0#8, 0#8, 0#8, 0#8, 0#8, 0#8, 0#8, 0#8, 0#8, 0#8, 0#8, 0#8, 0#8, 0#8, 0#8, 0#8⟩

/-- A pulse channel after reset (R70). -/
def PulseCh.zero : PulseCh := ⟨false, 0#14, 0#7, 0#3, 0#4, 0#3⟩
/-- The sweep unit after reset (R70). -/
def SweepUnit.zero : SweepUnit := ⟨0#11, 0#4, false⟩
/-- CH3 after reset (R70). -/
def WaveCh.zero : WaveCh := ⟨false, 0#13, 0#9, 0#5⟩
/-- CH4 after reset (R70). -/
def NoiseCh.zero : NoiseCh := ⟨false, 0#22, 0#7, 0#4, 0#3, 0#15⟩

/-- The block at the reset values of R70: all zero except `fs.counter` = 8192. -/
def Apu.reset : Apu where
  regs := RegFile.zero
  masterPower := false
  waveRam := []
  ch1 := PulseCh.zero
  sweep := SweepUnit.zero
  ch2 := PulseCh.zero
  ch3 := WaveCh.zero
  ch4 := NoiseCh.zero
  fs := ⟨8192#14, 0#3⟩
  sampleTimer := 0#22
  left := 0#8
  right := 0#8

/-- The machine right after a `RESET` with `hasBIOS` = 1 (R70, R391; DESIGN CHOICE, log entry 1), no operation pending and none
answered. -/
def State.reset : State where
  apu := Apu.reset
  trace := []
  answers := []

end Sys2Proof.Machine
end

