-- ==== Sys2Proof/Machine/Ops.lean ====
section
/-! DEFINITION. The named operations over memory, the register file, the parts of the block and the host's side.
There is no operation that takes an exception and none that returns from one: the block raises nothing
(60_exceptions.md R360, R362). -/
namespace Sys2Proof.Machine

/-! ### Wave RAM (20_memory.md R84; 42_wave_channel.md R230, R231) -/

/-- What an address no write has changed reads as: the reset contents 0x00 (10_state.md R70; DESIGN CHOICE, log entry 7). -/
def unlistedByte : Byte := 0#8

/-- `MemRead(a, 1)` (00_scope.md R10). -/
def memRead : Memory → Nat → Byte
  | [], _ => unlistedByte
  | (k, b) :: rest, a => if k = a then b else memRead rest a

/-- Put byte `v` at address `a` in front of `rest`, unless it is what an unlisted address reads as. -/
def memCons (a : Nat) (v : Byte) (rest : Memory) : Memory :=
  if v = unlistedByte then rest else (a, v) :: rest

/-- `MemWrite(a, 1, v)` (R10), keeping the canonical form. -/
def memWrite : Memory → Nat → Byte → Memory
  | [], a, v => memCons a v []
  | (k, b) :: rest, a, v =>
    if a < k then memCons a v ((k, b) :: rest)
    else if a = k then memCons a v rest
    else (k, b) :: memWrite rest a v

/-- The first address of the wave RAM window (R6). -/
@[simp] def waveBase : Nat := 0xFF30
/-- The last address of the wave RAM window (R6). -/
@[simp] def waveLast : Nat := 0xFF3F

/-- Canonical form from address `lo` upwards: addresses strictly rising, inside the wave RAM window, no byte equal to
what an unlisted address reads as. -/
def memWfFrom (lo : Nat) : Memory → Bool
  | [] => true
  | (k, b) :: rest => decide (lo ≤ k) && decide (k ≤ waveLast) && decide (b ≠ unlistedByte) && memWfFrom (k + 1) rest

/-- The canonical form of memory. -/
def Memory.wf (m : Memory) : Bool := memWfFrom waveBase m

/-- `waveRAM[k]` (R24). -/
def waveByte (m : Memory) (k : BitVec 4) : Byte := memRead m (waveBase + k.toNat)

/-! ### The register file (10_state.md R21; 00_scope.md R10) -/

/-- `reg[x]`. -/
def RegFile.get (f : RegFile) : CtrlReg → Byte
  | .nr10 => f.nr10
  | .nr11 => f.nr11
  | .nr12 => f.nr12
  | .nr13 => f.nr13
  | .nr14 => f.nr14
  | .nr21 => f.nr21
  | .nr22 => f.nr22
  | .nr23 => f.nr23
  | .nr24 => f.nr24
  | .nr30 => f.nr30
  | .nr31 => f.nr31
  | .nr32 => f.nr32
  | .nr33 => f.nr33
  | .nr34 => f.nr34
  | .nr41 => f.nr41
  | .nr42 => f.nr42
  | .nr43 => f.nr43
  | .nr44 => f.nr44
  | .nr50 => f.nr50
  | .nr51 => f.nr51

/-- `reg[x] <- v`. -/
def RegFile.set (f : RegFile) (x : CtrlReg) (v : Byte) : RegFile :=
  match x with
  | .nr10 => { f with nr10 := v }
  | .nr11 => { f with nr11 := v }
  | .nr12 => { f with nr12 := v }
  | .nr13 => { f with nr13 := v }
  | .nr14 => { f with nr14 := v }
  | .nr21 => { f with nr21 := v }
  | .nr22 => { f with nr22 := v }
  | .nr23 => { f with nr23 := v }
  | .nr24 => { f with nr24 := v }
  | .nr30 => { f with nr30 := v }
  | .nr31 => { f with nr31 := v }
  | .nr32 => { f with nr32 := v }
  | .nr33 => { f with nr33 := v }
  | .nr34 => { f with nr34 := v }
  | .nr41 => { f with nr41 := v }
  | .nr42 => { f with nr42 := v }
  | .nr43 => { f with nr43 := v }
  | .nr44 => { f with nr44 := v }
  | .nr50 => { f with nr50 := v }
  | .nr51 => { f with nr51 := v }

/-! ### Updates of one part of the block -/

/-- Replace `regs`. -/
def Apu.setRegs (a : Apu) (x : RegFile) : Apu := { a with regs := x }
/-- Replace `masterPower`. -/
def Apu.setPower (a : Apu) (x : Bool) : Apu := { a with masterPower := x }
/-- Replace `waveRam`. -/
def Apu.setWaveRam (a : Apu) (x : Memory) : Apu := { a with waveRam := x }
/-- Replace `ch1`. -/
def Apu.setCh1 (a : Apu) (x : PulseCh) : Apu := { a with ch1 := x }
/-- Replace `sweep`. -/
def Apu.setSweep (a : Apu) (x : SweepUnit) : Apu := { a with sweep := x }
/-- Replace `ch2`. -/
def Apu.setCh2 (a : Apu) (x : PulseCh) : Apu := { a with ch2 := x }
/-- Replace `ch3`. -/
def Apu.setCh3 (a : Apu) (x : WaveCh) : Apu := { a with ch3 := x }
/-- Replace `ch4`. -/
def Apu.setCh4 (a : Apu) (x : NoiseCh) : Apu := { a with ch4 := x }
/-- Replace `fs`. -/
def Apu.setFs (a : Apu) (x : FrameSeq) : Apu := { a with fs := x }
/-- Replace `sampleTimer`. -/
def Apu.setSampleTimer (a : Apu) (x : BitVec 22) : Apu := { a with sampleTimer := x }
/-- Latch an output pair (R62). -/
def Apu.setLatch (a : Apu) (l r : Byte) : Apu := { a with left := l, right := r }

/-- The working registers of a pulse channel. -/
def Apu.pulse (a : Apu) : PulseId → PulseCh
  | .ch1 => a.ch1
  | .ch2 => a.ch2

/-- Replace the working registers of a pulse channel. -/
def Apu.setPulse (a : Apu) (n : PulseId) (p : PulseCh) : Apu :=
  match n with
  | .ch1 => a.setCh1 p
  | .ch2 => a.setCh2 p

/-- `chN.enabled` (R47). -/
def Apu.enabled (a : Apu) : ChanId → Bool
  | .ch1 => a.ch1.enabled
  | .ch2 => a.ch2.enabled
  | .ch3 => a.ch3.enabled
  | .ch4 => a.ch4.enabled

/-- `chN.enabled <- 0`. -/
def Apu.disable (a : Apu) (n : ChanId) : Apu :=
  match n with
  | .ch1 => a.setCh1 { a.ch1 with enabled := false }
  | .ch2 => a.setCh2 { a.ch2 with enabled := false }
  | .ch3 => a.setCh3 { a.ch3 with enabled := false }
  | .ch4 => a.setCh4 { a.ch4 with enabled := false }

/-! ### Counting -/

/-- A down-counter's guarded decrement (`if t > 0: t <- t - 1`; 92_eei_decisions.md D6). -/
def countDown {w : Nat} (t : BitVec w) : BitVec w := if t = 0#w then 0#w else t - 1#w

/-! ### The host's side -/

/-- An operation that returns nothing leaves the block in state `a`. -/
def State.commit (s : State) (a : Apu) : Host.Outcome State Fault Refusal := .next { s with apu := a }

/-- An operation that returns a value changes nothing in the block (20_memory.md R90, R91). -/
def State.reply (s : State) (x : Answer) : Host.Outcome State Fault Refusal :=
  .next { s with answers := x :: s.answers }

/-- What the host does next. -/
inductive Fetched where
  /-- It issues nothing. -/
  | idle
  /-- The next trace word is no operation. -/
  | bad (e : DecodeError)
  /-- It issues operation `i`, after which `rest` is left to issue. -/
  | issue (i : Instr) (rest : List TraceWord)
  deriving DecidableEq, Repr

/-- The next operation of the host's sequence (R95). -/
def fetch (trace : List TraceWord) : Fetched :=
  match trace with
  | [] => .idle
  | w :: rest =>
    match decode w with
    | .ok i => .issue i rest
    | .error e => .bad e

/-- `MODEL` is accepted at construction; `extended` is refused (00_scope.md R8). -/
def refusedModel (m : Model) : Bool := m == .extended

end Sys2Proof.Machine
end

