-- ==== Sys2Proof/Machine/Tables.lean ====
section
/-! DEFINITION. The values this spec takes for the parameters of 00_scope.md R7 (30_encoding.md R125 to R128;
70_reset_and_hazards.md R394; 46_mixer.md R317). The spec marks them as its own choice or as general knowledge
(92_eei_decisions.md D10 to D16): DESIGN CHOICE, log entry 8. -/
namespace Sys2Proof

/-- `DUTY_TABLE` (R125): the steps that are high. -/
def dutyTable (d : BitVec 2) (s : BitVec 3) : Bool :=
  if d = 0#2 then s == 7#3
  else if d = 1#2 then s == 0#3 || s == 7#3
  else if d = 2#2 then s == 0#3 || s == 5#3 || s == 6#3 || s == 7#3
  else s != 0#3 && s != 7#3

/-- `NOISE_DIVISOR` (R126): 8, 16, 32, 48, 64, 80, 96, 112. -/
def noiseDivisor (c : BitVec 3) : Nat := if c = 0#3 then 8 else 16 * c.toNat

/-- `READ_MASK` (R128). -/
def readMask : CtrlReg → Byte
  | .nr10 => 0x80
  | .nr11 => 0x3F
  | .nr12 => 0x00
  | .nr13 => 0xFF
  | .nr14 => 0xBF
  | .nr21 => 0x3F
  | .nr22 => 0x00
  | .nr23 => 0xFF
  | .nr24 => 0xBF
  | .nr30 => 0x7F
  | .nr31 => 0xFF
  | .nr32 => 0x9F
  | .nr33 => 0xFF
  | .nr34 => 0xBF
  | .nr41 => 0xFF
  | .nr42 => 0x00
  | .nr43 => 0x00
  | .nr44 => 0xBF
  | .nr50 => 0x00
  | .nr51 => 0x00

/-- `BOOT_DEFAULTS` (R394), in order, NR52 first. -/
def bootDefaults : List (Addr × Byte) :=
  [ (nr52Addr, 0xF1),
    (CtrlReg.nr10.addr, 0x80),
    (CtrlReg.nr11.addr, 0xBF),
    (CtrlReg.nr12.addr, 0xF3),
    (CtrlReg.nr13.addr, 0xFF),
    (CtrlReg.nr14.addr, 0xBF),
    (CtrlReg.nr21.addr, 0x3F),
    (CtrlReg.nr22.addr, 0x00),
    (CtrlReg.nr23.addr, 0xFF),
    (CtrlReg.nr24.addr, 0xBF),
    (CtrlReg.nr30.addr, 0x7F),
    (CtrlReg.nr31.addr, 0xFF),
    (CtrlReg.nr32.addr, 0x9F),
    (CtrlReg.nr33.addr, 0xFF),
    (CtrlReg.nr34.addr, 0xBF),
    (CtrlReg.nr41.addr, 0xFF),
    (CtrlReg.nr42.addr, 0x00),
    (CtrlReg.nr43.addr, 0x00),
    (CtrlReg.nr44.addr, 0xBF),
    (CtrlReg.nr50.addr, 0x77),
    (CtrlReg.nr51.addr, 0xF3) ]

/-- `MIX_SCALE(sum, V) = floor(sum * V * 255 / 420)` (R317). -/
def mixScale (sum vol : Nat) : Nat := sum * vol * 255 / 420

/-- The parameters this model runs with: the value R7 takes for each, `MODEL = base` (R8). -/
def Config.params : Config where
  dutyTable := Sys2Proof.dutyTable
  noiseDivisor := Sys2Proof.noiseDivisor
  readMask := Sys2Proof.readMask
  bootDefaults := Sys2Proof.bootDefaults
  waveLenMax := .len64
  mixScale := Sys2Proof.mixScale
  model := .base

end Sys2Proof
end

