-- ==== Sys2Proof/Machine/Operands.lean ====
section
/-! DEFINITION. The views of the stored bytes (10_state.md R23, R25 to R44) and operand assembly (30_encoding.md R118
to R122, R127). A view is recomputed at each use; nothing is latched. The bit positions are the spec's standard
layout, marked there as general knowledge (PRESUMED, log entry 9). -/
namespace Sys2Proof.Machine

/-! ### Which registers belong to which channel (00_scope.md R3) -/

/-- NR11, NR21. -/
def PulseId.nrx1 : PulseId → CtrlReg
  | .ch1 => .nr11
  | .ch2 => .nr21
/-- NR12, NR22. -/
def PulseId.nrx2 : PulseId → CtrlReg
  | .ch1 => .nr12
  | .ch2 => .nr22
/-- NR13, NR23. -/
def PulseId.nrx3 : PulseId → CtrlReg
  | .ch1 => .nr13
  | .ch2 => .nr23
/-- NR14, NR24. -/
def PulseId.nrx4 : PulseId → CtrlReg
  | .ch1 => .nr14
  | .ch2 => .nr24
/-- The pulse channel as one of the four. -/
def PulseId.chan : PulseId → ChanId
  | .ch1 => .ch1
  | .ch2 => .ch2
/-- NR14, NR24, NR34, NR44: the register with the trigger bit and `lengthEnable`. -/
def ChanId.nrx4 : ChanId → CtrlReg
  | .ch1 => .nr14
  | .ch2 => .nr24
  | .ch3 => .nr34
  | .ch4 => .nr44

/-- `reg[x]` of the block. -/
def Apu.reg (a : Apu) (x : CtrlReg) : Byte := a.regs.get x

/-- `reg[x] <- v` in the block. -/
def Apu.store (a : Apu) (x : CtrlReg) (v : Byte) : Apu := a.setRegs (a.regs.set x v)

/-! ### Accepting a write, reading a control register -/

/-- A `WR` to one of the 20 control registers: ignored while the power is off (45_register_file.md R278), else the
whole byte is stored (R280) and then the register's effect runs (R281). -/
def acceptWrite (x : CtrlReg) (v : Byte) (effect : Apu → Apu) (a : Apu) : Apu :=
  if a.masterPower then effect (a.store x v) else a

/-- A `RD` of one of the 20 control registers: 0x00 while the power is off (R290), else the stored byte with the read
mask (R291). -/
def readCtrl (c : Config) (x : CtrlReg) (a : Apu) : Byte :=
  if a.masterPower then a.reg x ||| c.readMask x else 0#8

/-! ### Fields of a byte -/

/-- NR10[6:4] (R25). -/
def sweepPeriodOf (v : Byte) : BitVec 3 := v.extractLsb' 4 3
/-- NR10[3]: 1 = subtract (R25, R122). -/
def sweepDownOf (v : Byte) : Bool := v.getLsbD 3
/-- NR10[2:0] (R25). -/
def sweepShiftOf (v : Byte) : BitVec 3 := v.extractLsb' 0 3
/-- NRx1[7:6] (R26, R30). -/
def dutyPatternOf (v : Byte) : BitVec 2 := v.extractLsb' 6 2
/-- NRx2[7:4] (R27, R31, R40). -/
def initialVolumeOf (v : Byte) : BitVec 4 := v.extractLsb' 4 4
/-- NRx2[3]: 1 = increase (R27, R122). -/
def envUpOf (v : Byte) : Bool := v.getLsbD 3
/-- NRx2[2:0] (R27). -/
def paceOf (v : Byte) : BitVec 3 := v.extractLsb' 0 3
/-- NRx4[7], the trigger bit (R29, R42). -/
def triggerOf (v : Byte) : Bool := v.getLsbD 7
/-- NR32[6:5] (R36). -/
def volumeShiftCodeOf (v : Byte) : BitVec 2 := v.extractLsb' 5 2
/-- NR43[7:4] (R41). -/
def clockShiftOf (v : Byte) : BitVec 4 := v.extractLsb' 4 4
/-- NR43[3]: 1 = 7-bit (R41). -/
def shortWidthOf (v : Byte) : Bool := v.getLsbD 3
/-- NR43[2:0] (R41). -/
def divisorCodeOf (v : Byte) : BitVec 3 := v.extractLsb' 0 3

/-- The live frequency `{NRx4[2:0], NRx3}` (R118). -/
def freqOf (nrx3 nrx4 : Byte) : BitVec 11 := nrx4.extractLsb' 0 3 ++ nrx3

/-- The master volume of a terminal in NR50 (R43). -/
def masterVolumeOf (t : Terminal) (v : Byte) : BitVec 3 :=
  match t with
  | .left => v.extractLsb' 4 3
  | .right => v.extractLsb' 0 3

/-- `mix.route[t][n]` in NR51 (R44). -/
def routedOf (t : Terminal) (n : ChanId) (v : Byte) : Bool :=
  match t, n with
  | .left, .ch1 => v.getLsbD 4
  | .left, .ch2 => v.getLsbD 5
  | .left, .ch3 => v.getLsbD 6
  | .left, .ch4 => v.getLsbD 7
  | .right, .ch1 => v.getLsbD 0
  | .right, .ch2 => v.getLsbD 1
  | .right, .ch3 => v.getLsbD 2
  | .right, .ch4 => v.getLsbD 3

/-! ### Views of the block -/

/-- `ch1.frequency`, `ch2.frequency` (R118). -/
def Apu.pulseFrequency (a : Apu) (n : PulseId) : BitVec 11 := freqOf (a.reg n.nrx3) (a.reg n.nrx4)
/-- `ch3.frequency` (R118). -/
def Apu.waveFrequency (a : Apu) : BitVec 11 := freqOf (a.reg .nr33) (a.reg .nr34)
/-- `sweepPeriod` (R25). -/
def Apu.sweepPeriod (a : Apu) : BitVec 3 := sweepPeriodOf (a.reg .nr10)
/-- `sweepShift` (R25). -/
def Apu.sweepShift (a : Apu) : BitVec 3 := sweepShiftOf (a.reg .nr10)

/-! ### Length loads (R119) -/

/-- `64 - v[5:0]`. -/
def lengthLoad (v : Byte) : BitVec 7 := BitVec.ofNat 7 (64 - (v.extractLsb' 0 6).toNat)

/-- `WAVE_LEN_MAX - (v & (WAVE_LEN_MAX - 1))`. -/
def waveLengthLoad (c : Config) (v : Byte) : BitVec 9 :=
  BitVec.ofNat 9 (c.waveLenMax.toNat - (v.toNat &&& (c.waveLenMax.toNat - 1)))

/-! ### Timer reload values (R121) -/

/-- CH1, CH2: `(2048 - frequency) * 4`. -/
def pulseReload (f : BitVec 11) : BitVec 14 := BitVec.ofNat 14 ((2048 - f.toNat) * 4)

/-- CH3: `(2048 - frequency) * 2`. -/
def waveReload (f : BitVec 11) : BitVec 13 := BitVec.ofNat 13 ((2048 - f.toNat) * 2)

/-- CH4: `NOISE_DIVISOR[divisorCode] << clockShift`, for every `clockShift` 0..15 (90_conflicts.md C4). -/
def noiseReload (c : Config) (nr43 : Byte) : BitVec 22 :=
  BitVec.ofNat 22 (c.noiseDivisor (divisorCodeOf nr43) <<< (clockShiftOf nr43).toNat)

/-- Sweep timer: `sweepPeriod`, or 8 if zero. -/
def sweepReload (period : BitVec 3) : BitVec 4 := if period = 0#3 then 8#4 else period.setWidth 4

/-! ### Wave samples (R120, R127) -/

/-- The sample at `position`: the high nibble of its byte for an even position, the low one for an odd position. -/
def waveSample (m : Memory) (position : BitVec 5) : BitVec 4 :=
  let byte := waveByte m (position.extractLsb' 1 4)
  if position.getLsbD 0 then byte.extractLsb' 0 4 else byte.extractLsb' 4 4

/-- The level code: 0 mute, 1 unchanged, 2 half, 3 quarter. -/
def waveLevel (code : BitVec 2) (nibble : BitVec 4) : BitVec 4 :=
  if code = 0#2 then 0#4
  else if code = 1#2 then nibble
  else if code = 2#2 then nibble >>> 1
  else nibble >>> 2

/-! ### The sweep calculation (41_sweep_unit.md R196, R197) -/

/-- `sweep_calc()`: the exact sum or difference, not truncated. -/
def sweepCalc (shadow : BitVec 11) (nr10 : Byte) : Nat :=
  let delta := shadow.toNat >>> (sweepShiftOf nr10).toNat
  if sweepDownOf nr10 then shadow.toNat - delta else shadow.toNat + delta

/-! ### The LFSR (43_noise_channel.md R242) -/

/-- One bit at position `k` of a 15-bit word. -/
def lfsrBit (b : Bool) (k : Nat) : BitVec 15 := (if b then 1#15 else 0#15) <<< k

/-- One shift of the LFSR; `short` is `widthMode` = 1. -/
def lfsrShift (short : Bool) (lfsr : BitVec 15) : BitVec 15 :=
  let xorBit := lfsr.getLsbD 0 ^^ lfsr.getLsbD 1
  let shifted := (lfsr >>> 1) ||| lfsrBit xorBit 14
  if short then (shifted &&& 0x7FBF#15) ||| lfsrBit xorBit 6 else shifted

end Sys2Proof.Machine
end

