-- ==== Sys2Proof/Machine/Flags.lean ====
section
/-! DEFINITION. The one-bit status flags (10_state.md R64): the views `dacEnabled` and `lengthEnable`, the tests that
set or clear `enabled` and `sweepEnabled`, and the flag byte of NR52. There are no condition codes. -/
namespace Sys2Proof.Machine

/-- `v[7:3] != 0` of NR12, NR22, NR42 (R50). -/
def envDacOf (v : Byte) : Bool := v.extractLsb' 3 5 != 0#5

/-- Bit 7 of NR30 (R50). -/
def waveDacOf (v : Byte) : Bool := v.getLsbD 7

/-- `chN.dacEnabled` (R50). -/
def Apu.dacEnabled (a : Apu) : ChanId → Bool
  | .ch1 => envDacOf (a.reg .nr12)
  | .ch2 => envDacOf (a.reg .nr22)
  | .ch3 => waveDacOf (a.reg .nr30)
  | .ch4 => envDacOf (a.reg .nr42)

/-- `chN.lengthEnable`, bit 6 of NRx4 (R29, R33, R38, R42). -/
def Apu.lengthEnable (a : Apu) (n : ChanId) : Bool := (a.reg n.nrx4).getLsbD 6

/-- "A channel is audible only if both `enabled` and `dacEnabled` hold" (R66). -/
def Apu.audible (a : Apu) (n : ChanId) : Bool := a.enabled n && a.dacEnabled n

/-- Overflow of the sweep unit: the calculation gives more than 2047 (41_sweep_unit.md R196). -/
def Apu.sweepOverflow (a : Apu) : Bool := decide (sweepCalc a.sweep.shadowFrequency (a.reg .nr10) > 2047)

/-- `sweepPeriod != 0 or sweepShift != 0` (R56; 41_sweep_unit.md R193). -/
def sweepArmed (nr10 : Byte) : Bool := sweepPeriodOf nr10 != 0#3 || sweepShiftOf nr10 != 0#3

/-- The byte `RD NR52` returns, `{masterPower, 0b111, ch4, ch3, ch2, ch1}` (45_register_file.md R292). -/
def Apu.statusByte (a : Apu) : Byte :=
  BitVec.ofBool a.masterPower ++ 0b111#3 ++ BitVec.ofBool (a.enabled .ch4) ++ BitVec.ofBool (a.enabled .ch3) ++
    BitVec.ofBool (a.enabled .ch2) ++ BitVec.ofBool (a.enabled .ch1)

/-- The length rule on one counter (40_pulse_channels.md R157): the counter and the flag after a 256 Hz clock. -/
def lengthTick {w : Nat} (lengthEnable : Bool) (counter : BitVec w) (enabled : Bool) : BitVec w × Bool :=
  if lengthEnable && counter != 0#w then
    let counter' := counter - 1#w
    (counter', enabled && counter' != 0#w)
  else (counter, enabled)

end Sys2Proof.Machine
end

