-- ==== Sys2Proof/Machine/Sweep.lean ====
section
/-! DEFINITION. The frequency sweep unit of CH1 (41_sweep_unit.md): the trigger's sweep part, the commit, the 128 Hz
clock. -/
namespace Sys2Proof.Machine

/-- `sweep_trigger()` (R193): run last in the CH1 trigger. The immediate check is made only when `sweepShift != 0`
(90_conflicts.md C1). -/
def sweepTrigger (a : Apu) : Apu :=
  let b := a.setSweep
    { shadowFrequency := a.pulseFrequency .ch1
      sweepTimer := sweepReload a.sweepPeriod
      sweepEnabled := sweepArmed (a.reg .nr10) }
  if b.sweepShift ≠ 0#3 ∧ b.sweepOverflow then b.disable .ch1 else b

/-- `sweep_commit(f)` (R195): the shadow and the stored bytes of NR13 and NR14[2:0]; bits 7:3 of NR14 are kept. -/
def sweepCommit (f : BitVec 11) (a : Apu) : Apu :=
  ((a.setSweep { a.sweep with shadowFrequency := f }).store .nr13 (f.extractLsb' 0 8)).store .nr14
    ((a.reg .nr14).extractLsb' 3 5 ++ f.extractLsb' 8 3)

/-- The calculation a 128 Hz clock makes when its timer expires with a non-zero period and the unit enabled
(R194). -/
def sweepCalculate (a : Apu) : Apu :=
  let newFreq := sweepCalc a.sweep.shadowFrequency (a.reg .nr10)
  if newFreq > 2047 then a.disable .ch1
  else if a.sweepShift ≠ 0#3 then
    let b := sweepCommit (BitVec.ofNat 11 newFreq) a
    if b.sweepOverflow then b.disable .ch1 else b
  else a

/-- `clock128Hz()` (R194), whatever `ch1.enabled` and `apu.masterPower` are. The same clock does nothing to the other
channels (40_pulse_channels.md R185). -/
def clock128Hz (a : Apu) : Apu :=
  let t := countDown a.sweep.sweepTimer
  if t = 0#4 then
    let b := a.setSweep { a.sweep with sweepTimer := sweepReload a.sweepPeriod }
    if b.sweepPeriod ≠ 0#3 ∧ b.sweep.sweepEnabled then sweepCalculate b else b
  else a.setSweep { a.sweep with sweepTimer := t }

/-- `WR NR10, v` (R191): only the store. -/
def wrNr10 (v : Byte) (a : Apu) : Apu := acceptWrite .nr10 v id a

/-- Meaning of `WR NR10, v` (R191). -/
def execWrNr10 (v : Byte) (s : State) : Host.Outcome State Fault Refusal := s.commit (wrNr10 v s.apu)

/-- Meaning of `RD NR10` (R192). -/
def execRdNr10 (s : State) : Host.Outcome State Fault Refusal := s.reply (.byte (readCtrl Config.params .nr10 s.apu))

end Sys2Proof.Machine
end

