-- ==== Sys2Proof/Machine/Pulse.lean ====
section
/-! DEFINITION. The rules the channels share (length counter R157, envelope R160) and the two pulse channels with their
registers NR11 to NR14 and NR21 to NR24 (40_pulse_channels.md). -/
namespace Sys2Proof.Machine

/-! ### Length counter, all four channels -/

/-- `clock256Hz(N)` (R157), whatever `chN.enabled` is. -/
def clock256Hz (n : ChanId) (a : Apu) : Apu :=
  match n with
  | .ch1 =>
    let r := lengthTick (a.lengthEnable .ch1) a.ch1.lengthCounter a.ch1.enabled
    a.setCh1 { a.ch1 with lengthCounter := r.1, enabled := r.2 }
  | .ch2 =>
    let r := lengthTick (a.lengthEnable .ch2) a.ch2.lengthCounter a.ch2.enabled
    a.setCh2 { a.ch2 with lengthCounter := r.1, enabled := r.2 }
  | .ch3 =>
    let r := lengthTick (a.lengthEnable .ch3) a.ch3.lengthCounter a.ch3.enabled
    a.setCh3 { a.ch3 with lengthCounter := r.1, enabled := r.2 }
  | .ch4 =>
    let r := lengthTick (a.lengthEnable .ch4) a.ch4.lengthCounter a.ch4.enabled
    a.setCh4 { a.ch4 with lengthCounter := r.1, enabled := r.2 }

/-! ### Volume envelope, CH1, CH2, CH4 -/

/-- A volume moved one step, clamped to 0..15 (R160). -/
def volumeStep (up : Bool) (volume : BitVec 4) : BitVec 4 :=
  if up then (if volume < 15#4 then volume + 1#4 else volume)
  else if volume > 0#4 then volume - 1#4 else volume

/-- The envelope rule (R160): timer and volume after a 64 Hz clock, from the stored byte of NRx2. -/
def envTick (nrx2 : Byte) (timer : BitVec 3) (volume : BitVec 4) : BitVec 3 × BitVec 4 :=
  if paceOf nrx2 = 0#3 then (timer, volume)
  else
    let t := countDown timer
    if t = 0#3 then (paceOf nrx2, volumeStep (envUpOf nrx2) volume) else (t, volume)

/-- `clock64Hz(N)` for N = 1, 2 (R160), whatever `chN.enabled` is. -/
def pulseClock64Hz (n : PulseId) (a : Apu) : Apu :=
  let p := a.pulse n
  let r := envTick (a.reg n.nrx2) p.envTimer p.currentVolume
  a.setPulse n { p with envTimer := r.1, currentVolume := r.2 }

/-- `clock64Hz(4)` (R160; 43_noise_channel.md R246). -/
def noiseClock64Hz (a : Apu) : Apu :=
  let r := envTick (a.reg .nr42) a.ch4.envTimer a.ch4.currentVolume
  a.setCh4 { a.ch4 with envTimer := r.1, currentVolume := r.2 }

/-! ### Frequency timer, output, trigger -/

/-- `pulse_clockTimer(N)` (R155), ungated. -/
def pulseClockTimer (n : PulseId) (a : Apu) : Apu :=
  let p := a.pulse n
  let t := countDown p.frequencyTimer
  if t = 0#14 then
    a.setPulse n { p with frequencyTimer := pulseReload (a.pulseFrequency n), dutyStep := p.dutyStep + 1#3 }
  else a.setPulse n { p with frequencyTimer := t }

/-- `pulse_output(N)` (R161). -/
def pulseOutput (c : Config) (n : PulseId) (a : Apu) : BitVec 4 :=
  let p := a.pulse n
  if p.enabled && a.dacEnabled n.chan then
    if c.dutyTable (dutyPatternOf (a.reg n.nrx1)) p.dutyStep then p.currentVolume else 0#4
  else 0#4

/-- The part of `trigger_pulse(N)` that both channels have (R165); `dutyStep` is not reset. -/
def pulseRestart (n : PulseId) (a : Apu) : Apu :=
  let p := a.pulse n
  a.setPulse n
    { p with
      lengthCounter := if p.lengthCounter = 0#7 then 64#7 else p.lengthCounter
      frequencyTimer := pulseReload (a.pulseFrequency n)
      currentVolume := initialVolumeOf (a.reg n.nrx2)
      envTimer := paceOf (a.reg n.nrx2)
      enabled := a.dacEnabled n.chan }

/-- `trigger_pulse(N)` (R165): for CH1 the sweep's part comes last, so that its overflow check stands
(90_conflicts.md C1). -/
def triggerPulse (n : PulseId) (a : Apu) : Apu :=
  match n with
  | .ch1 => sweepTrigger (pulseRestart .ch1 a)
  | .ch2 => pulseRestart .ch2 a

/-! ### Register writes -/

/-- Load the length counter of CH1 or CH2 from an NRx1 byte (R151, R171; R119). -/
def pulseLengthWrite (n : PulseId) (v : Byte) (a : Apu) : Apu :=
  a.setPulse n { a.pulse n with lengthCounter := lengthLoad v }

/-- The DAC gate: disable channel `n` when its DAC view is 0 (R170; 42_wave_channel.md R215; 43_noise_channel.md
R250). -/
def dacGate (n : ChanId) (a : Apu) : Apu := if a.dacEnabled n then a else a.disable n

/-- `WR NR11, v` (R151). -/
def wrNr11 (v : Byte) (a : Apu) : Apu := acceptWrite .nr11 v (pulseLengthWrite .ch1 v) a
/-- `WR NR12, v` (R152). -/
def wrNr12 (v : Byte) (a : Apu) : Apu := acceptWrite .nr12 v (dacGate .ch1) a
/-- `WR NR13, v` (R153). -/
def wrNr13 (v : Byte) (a : Apu) : Apu := acceptWrite .nr13 v id a
/-- `WR NR14, v` (R154). -/
def wrNr14 (v : Byte) (a : Apu) : Apu :=
  acceptWrite .nr14 v (fun b => if triggerOf v then triggerPulse .ch1 b else b) a
/-- `WR NR21, v` (R171). -/
def wrNr21 (v : Byte) (a : Apu) : Apu := acceptWrite .nr21 v (pulseLengthWrite .ch2 v) a
/-- `WR NR22, v` (R172). -/
def wrNr22 (v : Byte) (a : Apu) : Apu := acceptWrite .nr22 v (dacGate .ch2) a
/-- `WR NR23, v` (R173). -/
def wrNr23 (v : Byte) (a : Apu) : Apu := acceptWrite .nr23 v id a
/-- `WR NR24, v` (R174). -/
def wrNr24 (v : Byte) (a : Apu) : Apu :=
  acceptWrite .nr24 v (fun b => if triggerOf v then triggerPulse .ch2 b else b) a

/-- Meaning of `WR NR11, v` (R151). -/
def execWrNr11 (v : Byte) (s : State) : Host.Outcome State Fault Refusal := s.commit (wrNr11 v s.apu)

/-- Meaning of `WR NR12, v` (R152). -/
def execWrNr12 (v : Byte) (s : State) : Host.Outcome State Fault Refusal := s.commit (wrNr12 v s.apu)

/-- Meaning of `WR NR13, v` (R153). -/
def execWrNr13 (v : Byte) (s : State) : Host.Outcome State Fault Refusal := s.commit (wrNr13 v s.apu)

/-- Meaning of `WR NR14, v` (R154). -/
def execWrNr14 (v : Byte) (s : State) : Host.Outcome State Fault Refusal := s.commit (wrNr14 v s.apu)

/-- Meaning of `WR NR21, v` (R171). -/
def execWrNr21 (v : Byte) (s : State) : Host.Outcome State Fault Refusal := s.commit (wrNr21 v s.apu)

/-- Meaning of `WR NR22, v` (R172). -/
def execWrNr22 (v : Byte) (s : State) : Host.Outcome State Fault Refusal := s.commit (wrNr22 v s.apu)

/-- Meaning of `WR NR23, v` (R173). -/
def execWrNr23 (v : Byte) (s : State) : Host.Outcome State Fault Refusal := s.commit (wrNr23 v s.apu)

/-- Meaning of `WR NR24, v` (R174). -/
def execWrNr24 (v : Byte) (s : State) : Host.Outcome State Fault Refusal := s.commit (wrNr24 v s.apu)

/-- Meaning of `RD NR11` (R175). -/
def execRdNr11 (s : State) : Host.Outcome State Fault Refusal := s.reply (.byte (readCtrl Config.params .nr11 s.apu))

/-- Meaning of `RD NR12` (R176). -/
def execRdNr12 (s : State) : Host.Outcome State Fault Refusal := s.reply (.byte (readCtrl Config.params .nr12 s.apu))

/-- Meaning of `RD NR13` (R177). -/
def execRdNr13 (s : State) : Host.Outcome State Fault Refusal := s.reply (.byte (readCtrl Config.params .nr13 s.apu))

/-- Meaning of `RD NR14` (R178). -/
def execRdNr14 (s : State) : Host.Outcome State Fault Refusal := s.reply (.byte (readCtrl Config.params .nr14 s.apu))

/-- Meaning of `RD NR21` (R179). -/
def execRdNr21 (s : State) : Host.Outcome State Fault Refusal := s.reply (.byte (readCtrl Config.params .nr21 s.apu))

/-- Meaning of `RD NR22` (R180). -/
def execRdNr22 (s : State) : Host.Outcome State Fault Refusal := s.reply (.byte (readCtrl Config.params .nr22 s.apu))

/-- Meaning of `RD NR23` (R181). -/
def execRdNr23 (s : State) : Host.Outcome State Fault Refusal := s.reply (.byte (readCtrl Config.params .nr23 s.apu))

/-- Meaning of `RD NR24` (R182). -/
def execRdNr24 (s : State) : Host.Outcome State Fault Refusal := s.reply (.byte (readCtrl Config.params .nr24 s.apu))

end Sys2Proof.Machine
end

