-- ==== Sys2Proof/Machine/FrameSequencer.lean ====
section
/-! DEFINITION. The frame sequencer (44_frame_sequencer.md): the tick and the fan-out of the length, sweep and envelope
clocks. Only `STEP` and `RESET` touch it (R260, R265). -/
namespace Sys2Proof.Machine

/-- The 256 Hz clock on all four channels, in ascending order (R262). -/
def lengthClocks (a : Apu) : Apu := clock256Hz .ch4 (clock256Hz .ch3 (clock256Hz .ch2 (clock256Hz .ch1 a)))

/-- The 64 Hz clock on CH1, CH2 and CH4, in ascending order (R262). -/
def envelopeClocks (a : Apu) : Apu := noiseClock64Hz (pulseClock64Hz .ch2 (pulseClock64Hz .ch1 a))

/-- Steps 0, 2, 4, 6 fire the length clock. -/
def firesLength (step : BitVec 3) : Bool := step == 0#3 || step == 2#3 || step == 4#3 || step == 6#3
/-- Steps 2, 6 fire the sweep clock. -/
def firesSweep (step : BitVec 3) : Bool := step == 2#3 || step == 6#3
/-- Step 7 fires the envelope clock. -/
def firesEnvelope (step : BitVec 3) : Bool := step == 7#3

/-- `fs_fire(s)` (R262): length, then sweep, then envelope. -/
def fsFire (step : BitVec 3) (a : Apu) : Apu :=
  let b := if firesLength step then lengthClocks a else a
  let d := if firesSweep step then clock128Hz b else b
  if firesEnvelope step then envelopeClocks d else d

/-- `fs_tick()` (R261): the clocks fire for the value of `fs.step` before the increment. -/
def fsTick (a : Apu) : Apu :=
  let n := a.fs.counter - 1#14
  if n = 0#14 then
    let b := fsFire a.fs.step (a.setFs { a.fs with counter := BitVec.ofNat 14 fsPeriod })
    b.setFs { b.fs with step := b.fs.step + 1#3 }
  else a.setFs { a.fs with counter := n }

end Sys2Proof.Machine
end

