-- ==== Sys2Proof/Machine/Noise.lean ====
section
/-! DEFINITION. The noise channel CH4 and its registers NR41 to NR44 (43_noise_channel.md). Its length and envelope
clocks are the shared rules (R246). -/
namespace Sys2Proof.Machine

/-- `noise_clockTimer()` (R242), ungated. -/
def noiseClockTimer (c : Config) (a : Apu) : Apu :=
  let t := countDown a.ch4.frequencyTimer
  if t = 0#22 then
    a.setCh4
      { a.ch4 with
        frequencyTimer := noiseReload c (a.reg .nr43)
        lfsr := lfsrShift (shortWidthOf (a.reg .nr43)) a.ch4.lfsr }
  else a.setCh4 { a.ch4 with frequencyTimer := t }

/-- `noise_output()` (R245): the volume when bit 0 of the LFSR is 0. -/
def noiseOutput (a : Apu) : BitVec 4 :=
  if a.ch4.enabled && a.dacEnabled .ch4 then
    if a.ch4.lfsr.getLsbD 0 then 0#4 else a.ch4.currentVolume
  else 0#4

/-- `trigger_noise()` (R247). -/
def triggerNoise (c : Config) (a : Apu) : Apu :=
  a.setCh4
    { lengthCounter := if a.ch4.lengthCounter = 0#7 then 64#7 else a.ch4.lengthCounter
      frequencyTimer := noiseReload c (a.reg .nr43)
      currentVolume := initialVolumeOf (a.reg .nr42)
      envTimer := paceOf (a.reg .nr42)
      lfsr := 0x7FFF#15
      enabled := a.dacEnabled .ch4 }

/-- `WR NR41, v` (R236). -/
def wrNr41 (v : Byte) (a : Apu) : Apu :=
  acceptWrite .nr41 v (fun b => b.setCh4 { b.ch4 with lengthCounter := lengthLoad v }) a
/-- `WR NR42, v` (R237). -/
def wrNr42 (v : Byte) (a : Apu) : Apu := acceptWrite .nr42 v (dacGate .ch4) a
/-- `WR NR43, v` (R238). -/
def wrNr43 (v : Byte) (a : Apu) : Apu := acceptWrite .nr43 v id a
/-- `WR NR44, v` (R239). -/
def wrNr44 (c : Config) (v : Byte) (a : Apu) : Apu :=
  acceptWrite .nr44 v (fun b => if triggerOf v then triggerNoise c b else b) a

/-- Meaning of `WR NR41, v` (R236). -/
def execWrNr41 (v : Byte) (s : State) : Host.Outcome State Fault Refusal := s.commit (wrNr41 v s.apu)

/-- Meaning of `WR NR42, v` (R237). -/
def execWrNr42 (v : Byte) (s : State) : Host.Outcome State Fault Refusal := s.commit (wrNr42 v s.apu)

/-- Meaning of `WR NR43, v` (R238). -/
def execWrNr43 (v : Byte) (s : State) : Host.Outcome State Fault Refusal := s.commit (wrNr43 v s.apu)

/-- Meaning of `WR NR44, v` (R239). -/
def execWrNr44 (v : Byte) (s : State) : Host.Outcome State Fault Refusal := s.commit (wrNr44 Config.params v s.apu)

/-- Meaning of `RD NR41` (R240). -/
def execRdNr41 (s : State) : Host.Outcome State Fault Refusal := s.reply (.byte (readCtrl Config.params .nr41 s.apu))

/-- Meaning of `RD NR42` (R241). -/
def execRdNr42 (s : State) : Host.Outcome State Fault Refusal := s.reply (.byte (readCtrl Config.params .nr42 s.apu))

/-- Meaning of `RD NR43` (R243). -/
def execRdNr43 (s : State) : Host.Outcome State Fault Refusal := s.reply (.byte (readCtrl Config.params .nr43 s.apu))

/-- Meaning of `RD NR44` (R244). -/
def execRdNr44 (s : State) : Host.Outcome State Fault Refusal := s.reply (.byte (readCtrl Config.params .nr44 s.apu))

end Sys2Proof.Machine
end

