-- ==== Sys2Proof/Machine/Wave.lean ====
section
/-! DEFINITION. The wave channel CH3, its registers NR30 to NR34, and the wave RAM window (42_wave_channel.md). Its
length clock is the shared rule (R226); it has no sweep and no envelope (R210). -/
namespace Sys2Proof.Machine

/-- `wave_clockTimer()` (R223), ungated. -/
def waveClockTimer (a : Apu) : Apu :=
  let t := countDown a.ch3.frequencyTimer
  if t = 0#13 then
    a.setCh3 { a.ch3 with frequencyTimer := waveReload a.waveFrequency, position := a.ch3.position + 1#5 }
  else a.setCh3 { a.ch3 with frequencyTimer := t }

/-- `wave_output()` (R222). -/
def waveOutput (a : Apu) : BitVec 4 :=
  if a.ch3.enabled && a.dacEnabled .ch3 then
    waveLevel (volumeShiftCodeOf (a.reg .nr32)) (waveSample a.waveRam a.ch3.position)
  else 0#4

/-- `trigger_wave()` (R225). -/
def triggerWave (c : Config) (a : Apu) : Apu :=
  a.setCh3
    { lengthCounter := if a.ch3.lengthCounter = 0#9 then BitVec.ofNat 9 c.waveLenMax.toNat else a.ch3.lengthCounter
      frequencyTimer := waveReload a.waveFrequency
      position := 0#5
      enabled := a.dacEnabled .ch3 }

/-- `WR NR30, v` (R211). -/
def wrNr30 (v : Byte) (a : Apu) : Apu := acceptWrite .nr30 v (dacGate .ch3) a
/-- `WR NR31, v` (R212). -/
def wrNr31 (c : Config) (v : Byte) (a : Apu) : Apu :=
  acceptWrite .nr31 v (fun b => b.setCh3 { b.ch3 with lengthCounter := waveLengthLoad c v }) a
/-- `WR NR32, v` (R213). -/
def wrNr32 (v : Byte) (a : Apu) : Apu := acceptWrite .nr32 v id a
/-- `WR NR33, v` (R214). -/
def wrNr33 (v : Byte) (a : Apu) : Apu := acceptWrite .nr33 v id a
/-- `WR NR34, v` (R216). -/
def wrNr34 (c : Config) (v : Byte) (a : Apu) : Apu :=
  acceptWrite .nr34 v (fun b => if triggerOf v then triggerWave c b else b) a

/-- `WR WAVE[k], v` (R230): accepted in both power states. -/
def wrWave (k : BitVec 4) (v : Byte) (a : Apu) : Apu := a.setWaveRam (memWrite a.waveRam (waveBase + k.toNat) v)

/-- `RD WAVE[k]` (R231). -/
def rdWave (k : BitVec 4) (a : Apu) : Byte := waveByte a.waveRam k

/-- Meaning of `WR NR30, v` (R211). -/
def execWrNr30 (v : Byte) (s : State) : Host.Outcome State Fault Refusal := s.commit (wrNr30 v s.apu)

/-- Meaning of `WR NR31, v` (R212). -/
def execWrNr31 (v : Byte) (s : State) : Host.Outcome State Fault Refusal := s.commit (wrNr31 Config.params v s.apu)

/-- Meaning of `WR NR32, v` (R213). -/
def execWrNr32 (v : Byte) (s : State) : Host.Outcome State Fault Refusal := s.commit (wrNr32 v s.apu)

/-- Meaning of `WR NR33, v` (R214). -/
def execWrNr33 (v : Byte) (s : State) : Host.Outcome State Fault Refusal := s.commit (wrNr33 v s.apu)

/-- Meaning of `WR NR34, v` (R216). -/
def execWrNr34 (v : Byte) (s : State) : Host.Outcome State Fault Refusal := s.commit (wrNr34 Config.params v s.apu)

/-- Meaning of `WR WAVE[k], v` (R230). -/
def execWrWave (k : BitVec 4) (v : Byte) (s : State) : Host.Outcome State Fault Refusal := s.commit (wrWave k v s.apu)

/-- Meaning of `RD WAVE[k]` (R231). -/
def execRdWave (k : BitVec 4) (s : State) : Host.Outcome State Fault Refusal := s.reply (.byte (rdWave k s.apu))

/-- Meaning of `RD NR30` (R217). -/
def execRdNr30 (s : State) : Host.Outcome State Fault Refusal := s.reply (.byte (readCtrl Config.params .nr30 s.apu))

/-- Meaning of `RD NR31` (R218). -/
def execRdNr31 (s : State) : Host.Outcome State Fault Refusal := s.reply (.byte (readCtrl Config.params .nr31 s.apu))

/-- Meaning of `RD NR32` (R219). -/
def execRdNr32 (s : State) : Host.Outcome State Fault Refusal := s.reply (.byte (readCtrl Config.params .nr32 s.apu))

/-- Meaning of `RD NR33` (R220). -/
def execRdNr33 (s : State) : Host.Outcome State Fault Refusal := s.reply (.byte (readCtrl Config.params .nr33 s.apu))

/-- Meaning of `RD NR34` (R221). -/
def execRdNr34 (s : State) : Host.Outcome State Fault Refusal := s.reply (.byte (readCtrl Config.params .nr34 s.apu))

end Sys2Proof.Machine
end

