-- ==== Sys2Proof/Machine/Mixer.lean ====
section
/-! DEFINITION. The stereo mixer, its registers NR50 and NR51, the 44.1 kHz latch and `SAMPLE` (46_mixer.md). -/
namespace Sys2Proof.Machine

/-- `out[n]` (R315): the output of a channel, 0..15. -/
def channelOutput (c : Config) (n : ChanId) (a : Apu) : BitVec 4 :=
  match n with
  | .ch1 => pulseOutput c .ch1 a
  | .ch2 => pulseOutput c .ch2 a
  | .ch3 => waveOutput a
  | .ch4 => noiseOutput a

/-- What channel `n` adds to the sum of terminal `t` (R316). -/
def routedOutput (c : Config) (t : Terminal) (n : ChanId) (a : Apu) : Nat :=
  if routedOf t n (a.reg .nr51) then (channelOutput c n a).toNat else 0

/-- The sum of a terminal, 0..60 (R316). -/
def mixSum (c : Config) (t : Terminal) (a : Apu) : Nat :=
  routedOutput c t .ch1 a + routedOutput c t .ch2 a + routedOutput c t .ch3 a + routedOutput c t .ch4 a

/-- `mix(T)` (R316). -/
def mix (c : Config) (t : Terminal) (a : Apu) : Byte :=
  BitVec.ofNat 8 (c.mixScale (mixSum c t a) (masterVolumeOf t (a.reg .nr50)).toNat)

/-- Does this `STEP` reach a 44.1 kHz boundary (R318). -/
def latchDue (t : BitVec 22) : Bool := decide (fSample + t.toNat ≥ fMaster)

/-- `apu.sampleTimer` after a `STEP`: 44100 more, the remainder carried at a boundary (R318). -/
def nextSampleTimer (t : BitVec 22) : BitVec 22 :=
  BitVec.ofNat 22 (if latchDue t then fSample + t.toNat - fMaster else fSample + t.toNat)

/-- `sample_tick()` (R318): the exact accumulator, latching at each 44.1 kHz boundary. -/
def sampleTick (c : Config) (a : Apu) : Apu :=
  let b := a.setSampleTimer (nextSampleTimer a.sampleTimer)
  if latchDue a.sampleTimer then b.setLatch (mix c .left b) (mix c .right b) else b

/-- `WR NR50, v` (R311). -/
def wrNr50 (v : Byte) (a : Apu) : Apu := acceptWrite .nr50 v id a
/-- `WR NR51, v` (R312). -/
def wrNr51 (v : Byte) (a : Apu) : Apu := acceptWrite .nr51 v id a

/-- Meaning of `WR NR50, v` (R311). -/
def execWrNr50 (v : Byte) (s : State) : Host.Outcome State Fault Refusal := s.commit (wrNr50 v s.apu)

/-- Meaning of `WR NR51, v` (R312). -/
def execWrNr51 (v : Byte) (s : State) : Host.Outcome State Fault Refusal := s.commit (wrNr51 v s.apu)

/-- Meaning of `RD NR50` (R313). -/
def execRdNr50 (s : State) : Host.Outcome State Fault Refusal := s.reply (.byte (readCtrl Config.params .nr50 s.apu))

/-- Meaning of `RD NR51` (R314). -/
def execRdNr51 (s : State) : Host.Outcome State Fault Refusal := s.reply (.byte (readCtrl Config.params .nr51 s.apu))

/-- Meaning of `SAMPLE` (R320): the latched pair. -/
def execSample (s : State) : Host.Outcome State Fault Refusal := s.reply (.pair s.apu.left s.apu.right)

end Sys2Proof.Machine
end

