-- ==== Sys2Proof/Machine/RegisterFile.lean ====
section
/-! DEFINITION. The register file: write and read dispatch by address, master power (NR52), unmapped addresses
(45_register_file.md). -/
namespace Sys2Proof.Machine

/-- Power-on (R284): sets `apu.masterPower` and nothing else. -/
def powerOn (a : Apu) : Apu := a.setPower true

/-- Power-off (R285): the 20 stored bytes and all channel working registers are cleared; wave RAM, the frame
sequencer, the sample timer and the latched pair are kept (90_conflicts.md C5). -/
def powerOff (a : Apu) : Apu :=
  ((((((a.setPower false).setRegs RegFile.zero).setCh1 PulseCh.zero).setSweep SweepUnit.zero).setCh2 PulseCh.zero).setCh3
    WaveCh.zero).setCh4 NoiseCh.zero

/-- `write_NR52(v)` (R286): never gated; bits 6:0 are ignored. -/
def wrNr52 (v : Byte) (a : Apu) : Apu := if v.getLsbD 7 then powerOn a else powerOff a

/-- `WR` at an unmapped address (R282): nothing. -/
def wrUnmapped (_addr : Addr) (_v : Byte) (a : Apu) : Apu := a

/-- `RD` at an unmapped address (R283): all ones, in both power states. -/
def rdUnmapped (_addr : Addr) (_a : Apu) : Byte := 0xFF#8

/-- The effect of a `WR` to one of the 20 control registers, by register (R281). -/
def wrCtrl (c : Config) (x : CtrlReg) (v : Byte) (a : Apu) : Apu :=
  match x with
  | .nr10 => wrNr10 v a
  | .nr11 => wrNr11 v a
  | .nr12 => wrNr12 v a
  | .nr13 => wrNr13 v a
  | .nr14 => wrNr14 v a
  | .nr21 => wrNr21 v a
  | .nr22 => wrNr22 v a
  | .nr23 => wrNr23 v a
  | .nr24 => wrNr24 v a
  | .nr30 => wrNr30 v a
  | .nr31 => wrNr31 c v a
  | .nr32 => wrNr32 v a
  | .nr33 => wrNr33 v a
  | .nr34 => wrNr34 c v a
  | .nr41 => wrNr41 v a
  | .nr42 => wrNr42 v a
  | .nr43 => wrNr43 v a
  | .nr44 => wrNr44 c v a
  | .nr50 => wrNr50 v a
  | .nr51 => wrNr51 v a

/-- `WR addr, v` for any address (R276). -/
def busWrite (c : Config) (addr : Addr) (v : Byte) (a : Apu) : Apu :=
  match targetOf addr with
  | .wave k => wrWave k v a
  | .nr52 => wrNr52 v a
  | .ctrl x => wrCtrl c x v a
  | .unmapped => wrUnmapped addr v a

/-- `RD addr` for any address (R277); it changes no state. -/
def busRead (c : Config) (addr : Addr) (a : Apu) : Byte :=
  match targetOf addr with
  | .wave k => rdWave k a
  | .nr52 => a.statusByte
  | .ctrl x => readCtrl c x a
  | .unmapped => rdUnmapped addr a

/-- Meaning of `WR NR52, v` (R286). -/
def execWrNr52 (v : Byte) (s : State) : Host.Outcome State Fault Refusal := s.commit (wrNr52 v s.apu)

/-- Meaning of `RD NR52` (R292). -/
def execRdNr52 (s : State) : Host.Outcome State Fault Refusal := s.reply (.byte s.apu.statusByte)

/-- Meaning of `WR` at an unmapped address (R282). -/
def execWrUnmapped (addr : Addr) (v : Byte) (s : State) : Host.Outcome State Fault Refusal :=
  s.commit (wrUnmapped addr v s.apu)

/-- Meaning of `RD` at an unmapped address (R283). -/
def execRdUnmapped (addr : Addr) (s : State) : Host.Outcome State Fault Refusal :=
  s.reply (.byte (rdUnmapped addr s.apu))

end Sys2Proof.Machine
end

