-- ==== Sys2Proof/Machine/TopLevel.lean ====
section
/-! DEFINITION. The top level: `STEP` and `RESET` (47_top_level.md; 70_reset_and_hazards.md). -/
namespace Sys2Proof.Machine

/-- One master-clock cycle (R340): the six parts in order, never gated (R341). -/
def clockCycle (c : Config) (a : Apu) : Apu :=
  sampleTick c (noiseClockTimer c (waveClockTimer (pulseClockTimer .ch2 (pulseClockTimer .ch1 (fsTick a)))))

/-- The boot writes of `RESET 0`, in order, each through the full `WR` rule (R345, R392, R394). -/
def bootWrites (c : Config) (a : Apu) : Apu := c.bootDefaults.foldl (fun b x => busWrite c x.1 x.2 b) a

/-- `RESET b` (R345): every piece of state to its reset value (R70), then for `hasBIOS` = 0 the boot writes. -/
def resetBlock (c : Config) (hasBIOS : Bool) : Apu := if hasBIOS then Apu.reset else bootWrites c Apu.reset

/-- Meaning of `STEP` (R340). -/
def execStep (s : State) : Host.Outcome State Fault Refusal := s.commit (clockCycle Config.params s.apu)

/-- Meaning of `RESET b` (R345). -/
def execReset (hasBIOS : Bool) (s : State) : Host.Outcome State Fault Refusal :=
  s.commit (resetBlock Config.params hasBIOS)

end Sys2Proof.Machine
end

