-- ==== Sys2Proof/Machine/Step.lean ====
section
/-! DEFINITION. One step of the machine: the host's next operation (20_memory.md R95), decoded and run. The block has
no program counter and no fetch of its own (10_state.md R60): DESIGN CHOICE, log entries 3 and 4. -/
namespace Sys2Proof.Machine

/-- The host issues its next operation. With none left to issue it issues nothing, "which freezes all time-dependent
state and nothing else" (60_exceptions.md R375). -/
def step (s : State) : Host.Outcome State Fault Refusal :=
  if refusedModel Config.params.model then .refused .modelExtended
  else
    match fetch s.trace with
    | .idle => .next s
    | .bad e => .refused (.badTraceWord e)
    | .issue i rest => exec i { s with trace := rest }

/-- `s` with one more operation, the trace word of the table's bits, as the next the host issues. -/
def State.withFetchWord (s : State) (nbits w : Nat) : State := { s with trace := tableWord nbits w :: s.trace }

end Sys2Proof.Machine
end

