-- ==== Sys2Proof/Machine/Ports.lean ====
section
/-! DEFINITION. The hardware binding of the five operations: the ports and one rising edge of `clk` (47_top_level.md
R338, R339). The operations are normative; the binding is the spec's convenience (DESIGN CHOICE, log entry 11). -/
namespace Sys2Proof.Machine

/-- The input ports in one cycle (R338). -/
structure PortIn where
  rst : Bool
  hasBios : Bool
  /-- static strap -/
  model : Model
  addr : Addr
  wdata : Byte
  wr : Bool
  rd : Bool
  deriving DecidableEq, Repr

/-- The output ports (R338); `rdata` is valid only while `rd` is 1. -/
structure PortOut where
  rdata : Option Byte
  left : Byte
  right : Byte
  deriving DecidableEq, Repr

/-- The operations of one rising edge, in order (R339). -/
def portOps (p : PortIn) : List Instr :=
  if p.rst then [.reset p.hasBios]
  else if p.wr then [writeInstr p.addr p.wdata, .step]
  else [.step]

/-- Why a cycle is given no meaning: the extended model (R338, 00_scope.md R8), or `wr` and `rd` at once (R339). Where
both hold, the spec gives no order; the name given is `modelExtended` (DESIGN CHOICE, log entry 11). -/
def portRefusal (p : PortIn) : Option Refusal :=
  if refusedModel p.model then some .modelExtended
  else if p.wr && p.rd then some .portOverlap
  else none

/-- A list of operations one after another, stopping at the first that stops. -/
def runOps : List Instr → State → Host.Outcome State Fault Refusal
  | [], s => .next s
  | i :: rest, s =>
    match exec i s with
    | .next t => runOps rest t
    | .fault r => .fault r
    | .refused r => .refused r

/-- One rising edge of `clk` (R339). -/
def portEdge (p : PortIn) (s : State) : Host.Outcome State Fault Refusal :=
  match portRefusal p with
  | some r => .refused r
  | none => runOps (portOps p) s

/-- The combinational outputs, from the state before the edge (R339). A cycle that is given no meaning has no outputs
either: none of `rdata`, `left` and `right` is answered under the extended strap (R8), nor in a cycle with `wr` and `rd`
both 1, for which the spec does not say which outputs lose their meaning (R411; 93_implementation_defined.md U3; DESIGN
CHOICE, log entry 11). -/
def portOut (p : PortIn) (s : State) : Except Refusal PortOut :=
  match portRefusal p with
  | some r => .error r
  | none => .ok
    { rdata := if p.rd then some (busRead Config.params p.addr s.apu) else none
      left := s.apu.left
      right := s.apu.right }

end Sys2Proof.Machine
end

