-- ==== Sys2Proof/Machine/Configured.lean ====
section
/-! DEFINITION. The machine with every open parameter as an argument (00_scope.md R7, 92_eei_decisions.md "Parameters
left OPEN"): the same operations of the block as `exec`, at any `Config`. `exec` and `step` are this machine at
`Config.params` (Laws/Configured.lean); a claim that must not depend on a parameter's value is made here. -/
namespace Sys2Proof.Machine

/-- One host operation under the parameters `c`; under the extended model it has no meaning (R8; DESIGN CHOICE, log
entry 14). -/
def execWith (c : Config) (i : Instr) (s : State) : Host.Outcome State Fault Refusal :=
  if refusedModel c.model then .refused .modelExtended
  else
    match i with
    | .step => s.commit (clockCycle c s.apu)
    | .wrNr10 v => s.commit (wrCtrl c .nr10 v s.apu)
    | .wrNr11 v => s.commit (wrCtrl c .nr11 v s.apu)
    | .wrNr12 v => s.commit (wrCtrl c .nr12 v s.apu)
    | .wrNr13 v => s.commit (wrCtrl c .nr13 v s.apu)
    | .wrNr14 v => s.commit (wrCtrl c .nr14 v s.apu)
    | .wrNr21 v => s.commit (wrCtrl c .nr21 v s.apu)
    | .wrNr22 v => s.commit (wrCtrl c .nr22 v s.apu)
    | .wrNr23 v => s.commit (wrCtrl c .nr23 v s.apu)
    | .wrNr24 v => s.commit (wrCtrl c .nr24 v s.apu)
    | .wrNr30 v => s.commit (wrCtrl c .nr30 v s.apu)
    | .wrNr31 v => s.commit (wrCtrl c .nr31 v s.apu)
    | .wrNr32 v => s.commit (wrCtrl c .nr32 v s.apu)
    | .wrNr33 v => s.commit (wrCtrl c .nr33 v s.apu)
    | .wrNr34 v => s.commit (wrCtrl c .nr34 v s.apu)
    | .wrNr41 v => s.commit (wrCtrl c .nr41 v s.apu)
    | .wrNr42 v => s.commit (wrCtrl c .nr42 v s.apu)
    | .wrNr43 v => s.commit (wrCtrl c .nr43 v s.apu)
    | .wrNr44 v => s.commit (wrCtrl c .nr44 v s.apu)
    | .wrNr50 v => s.commit (wrCtrl c .nr50 v s.apu)
    | .wrNr51 v => s.commit (wrCtrl c .nr51 v s.apu)
    | .wrNr52 v => s.commit (wrNr52 v s.apu)
    | .wrWave k v => s.commit (wrWave k v s.apu)
    | .wrUnmapped a v => s.commit (wrUnmapped a v s.apu)
    | .rdNr10 => s.reply (.byte (readCtrl c .nr10 s.apu))
    | .rdNr11 => s.reply (.byte (readCtrl c .nr11 s.apu))
    | .rdNr12 => s.reply (.byte (readCtrl c .nr12 s.apu))
    | .rdNr13 => s.reply (.byte (readCtrl c .nr13 s.apu))
    | .rdNr14 => s.reply (.byte (readCtrl c .nr14 s.apu))
    | .rdNr21 => s.reply (.byte (readCtrl c .nr21 s.apu))
    | .rdNr22 => s.reply (.byte (readCtrl c .nr22 s.apu))
    | .rdNr23 => s.reply (.byte (readCtrl c .nr23 s.apu))
    | .rdNr24 => s.reply (.byte (readCtrl c .nr24 s.apu))
    | .rdNr30 => s.reply (.byte (readCtrl c .nr30 s.apu))
    | .rdNr31 => s.reply (.byte (readCtrl c .nr31 s.apu))
    | .rdNr32 => s.reply (.byte (readCtrl c .nr32 s.apu))
    | .rdNr33 => s.reply (.byte (readCtrl c .nr33 s.apu))
    | .rdNr34 => s.reply (.byte (readCtrl c .nr34 s.apu))
    | .rdNr41 => s.reply (.byte (readCtrl c .nr41 s.apu))
    | .rdNr42 => s.reply (.byte (readCtrl c .nr42 s.apu))
    | .rdNr43 => s.reply (.byte (readCtrl c .nr43 s.apu))
    | .rdNr44 => s.reply (.byte (readCtrl c .nr44 s.apu))
    | .rdNr50 => s.reply (.byte (readCtrl c .nr50 s.apu))
    | .rdNr51 => s.reply (.byte (readCtrl c .nr51 s.apu))
    | .rdNr52 => s.reply (.byte s.apu.statusByte)
    | .rdWave k => s.reply (.byte (rdWave k s.apu))
    | .rdUnmapped a => s.reply (.byte (rdUnmapped a s.apu))
    | .sample => s.reply (.pair s.apu.left s.apu.right)
    | .reset b => s.commit (resetBlock c b)

/-- One step under the parameters `c`; the extended model is refused, whatever the trace holds (R8; DESIGN CHOICE, log
entry 14). -/
def stepWith (c : Config) (s : State) : Host.Outcome State Fault Refusal :=
  if refusedModel c.model then .refused .modelExtended
  else
    match fetch s.trace with
    | .idle => .next s
    | .bad e => .refused (.badTraceWord e)
    | .issue i rest => execWith c i { s with trace := rest }

end Sys2Proof.Machine
end

