-- ==== Sys2Proof/Safety.lean ====
section
/-! DEFINITION. What counts as a good state, in the terms the claims use: the ranges of the working registers
(10_state.md R48, R49, R55, R59), the DAC gate (R66), the power gate (R67) and the canonical form of memory. -/
namespace Sys2Proof.Machine

/-- The largest base divisor. -/
def maxDivisor (c : Config) : Nat := ((List.range 8).map fun d => c.noiseDivisor (BitVec.ofNat 3 d)).foldl max 0

/-- The ranges of the registers whose width holds more values than the rules produce (R48, R49, R55, R59). -/
abbrev Apu.RangesOk (c : Config) (a : Apu) : Prop :=
  a.ch1.frequencyTimer.toNat ≤ 8192 ∧ a.ch2.frequencyTimer.toNat ≤ 8192 ∧
  a.ch3.frequencyTimer.toNat ≤ 4096 ∧ a.ch4.frequencyTimer.toNat ≤ maxDivisor c * 2 ^ 15 ∧
  a.ch1.lengthCounter.toNat ≤ 64 ∧ a.ch2.lengthCounter.toNat ≤ 64 ∧
  a.ch3.lengthCounter.toNat ≤ c.waveLenMax.toNat ∧ a.ch4.lengthCounter.toNat ≤ 64 ∧
  a.sweep.sweepTimer.toNat ≤ 8 ∧
  1 ≤ a.fs.counter.toNat ∧ a.fs.counter.toNat ≤ 8192

/-- `chN.enabled = 1` implies `chN.dacEnabled = 1` (R66). -/
abbrev Apu.DacGateOk (a : Apu) : Prop :=
  (a.enabled .ch1 = true → a.dacEnabled .ch1 = true) ∧ (a.enabled .ch2 = true → a.dacEnabled .ch2 = true) ∧
  (a.enabled .ch3 = true → a.dacEnabled .ch3 = true) ∧ (a.enabled .ch4 = true → a.dacEnabled .ch4 = true)

/-- What is 0 while the power is off (R67): the stored bytes, the `enabled` flags, and `lengthCounter`,
`currentVolume`, `envTimer`, `shadowFrequency`, `sweepEnabled`, `lfsr`. -/
abbrev Apu.Cleared (a : Apu) : Prop :=
  a.regs = RegFile.zero ∧
  a.ch1.enabled = false ∧ a.ch2.enabled = false ∧ a.ch3.enabled = false ∧ a.ch4.enabled = false ∧
  a.ch1.lengthCounter = 0 ∧ a.ch2.lengthCounter = 0 ∧ a.ch3.lengthCounter = 0 ∧ a.ch4.lengthCounter = 0 ∧
  a.ch1.currentVolume = 0 ∧ a.ch2.currentVolume = 0 ∧ a.ch4.currentVolume = 0 ∧
  a.ch1.envTimer = 0 ∧ a.ch2.envTimer = 0 ∧ a.ch4.envTimer = 0 ∧
  a.sweep.shadowFrequency = 0 ∧ a.sweep.sweepEnabled = false ∧ a.ch4.lfsr = 0

/-- While the power is off the block is cleared (R67). -/
abbrev Apu.PowerGateOk (a : Apu) : Prop := a.masterPower = false → a.Cleared

/-- The invariant of the block under the parameters `c`: every step keeps it. -/
structure Apu.InvFor (c : Config) (a : Apu) : Prop where
  ranges : a.RangesOk c
  dacGate : a.DacGateOk
  powerGate : a.PowerGateOk
  memory : Memory.wf a.waveRam = true

/-- The invariant of the block this model runs. -/
abbrev Apu.Inv (a : Apu) : Prop := a.InvFor Config.params

/-- What a replacement of `BOOT_DEFAULTS` must keep as a whole: after `RESET 0` every register written reads back as
written, NR52 among them (70_reset_and_hazards.md R394, R397). -/
abbrev BootReadsBack (c : Config) : Prop :=
  ∀ w ∈ c.bootDefaults, busRead c w.1 (resetBlock c false) = w.2

/-- A trace the host may issue: every word is an operation (30_encoding.md R130). -/
def legalTrace (trace : List TraceWord) : Bool := trace.all fun w => (decode w).toBool

/-- The block after `n` `STEP`s with nothing between them (47_top_level.md R342). -/
def cycles (n : Nat) (a : Apu) : Apu := (clockCycle Config.params)^[n] a

end Sys2Proof.Machine
end

