-- ==== Sys2Proof/Certificates/Slice0/Obligations.lean ====
section
/-! DEFINITION. The statements about the model, from the spec's numbered rules. Each says in its own numbers what the
spec says; a statement that rests on a point the spec marks as its own decision or as general knowledge names that
decision (92_eei_decisions.md) and the log entry. -/

/-! ### The words the statements share -/
namespace Sys2Proof.Claims
open Sys2Proof.Machine

/-- The live frequency of two stored bytes, `{hi[2:0], lo}`, as a number. -/
def frequency (lo hi : Byte) : Nat := hi.toNat % 8 * 256 + lo.toNat

/-- The channel a control register belongs to; NR50 and NR51 belong to none. -/
def owner : CtrlReg → Option ChanId
  | .nr10 => some .ch1
  | .nr11 => some .ch1
  | .nr12 => some .ch1
  | .nr13 => some .ch1
  | .nr14 => some .ch1
  | .nr21 => some .ch2
  | .nr22 => some .ch2
  | .nr23 => some .ch2
  | .nr24 => some .ch2
  | .nr30 => some .ch3
  | .nr31 => some .ch3
  | .nr32 => some .ch3
  | .nr33 => some .ch3
  | .nr34 => some .ch3
  | .nr41 => some .ch4
  | .nr42 => some .ch4
  | .nr43 => some .ch4
  | .nr44 => some .ch4
  | .nr50 => none
  | .nr51 => none

/-- `chN.lengthCounter` as a number. -/
def lengthCounter (n : ChanId) (a : Apu) : Nat :=
  match n with
  | .ch1 => a.ch1.lengthCounter.toNat
  | .ch2 => a.ch2.lengthCounter.toNat
  | .ch3 => a.ch3.lengthCounter.toNat
  | .ch4 => a.ch4.lengthCounter.toNat

/-- The channels with an envelope. -/
inductive EnvId where
  | ch1
  | ch2
  | ch4
  deriving DecidableEq, Repr

/-- `chN.currentVolume` as a number. -/
def volume (n : EnvId) (a : Apu) : Nat :=
  match n with
  | .ch1 => a.ch1.currentVolume.toNat
  | .ch2 => a.ch2.currentVolume.toNat
  | .ch4 => a.ch4.currentVolume.toNat

/-- `chN.envTimer` as a number. -/
def envTimer (n : EnvId) (a : Apu) : Nat :=
  match n with
  | .ch1 => a.ch1.envTimer.toNat
  | .ch2 => a.ch2.envTimer.toNat
  | .ch4 => a.ch4.envTimer.toNat

/-- The stored byte of NRx2. -/
def envByte (n : EnvId) (a : Apu) : Byte :=
  match n with
  | .ch1 => a.regs.nr12
  | .ch2 => a.regs.nr22
  | .ch4 => a.regs.nr42

/-- This `STEP` is the 8192nd of a frame-sequencer step. -/
abbrev frameDue (a : Apu) : Prop := a.fs.counter = 1#14

/-- `shadow ± (shadow >> shift)` with NR10 = `r`, exactly. -/
def swept (shadow : Nat) (r : Byte) : Nat :=
  if r.getLsbD 3 then shadow - shadow / 2 ^ (r.toNat % 8) else shadow + shadow / 2 ^ (r.toNat % 8)

/-- `sweepPeriod` of NR10 = `r`. -/
def period (r : Byte) : Nat := r.toNat / 16 % 8

/-- The sum a terminal forms from the channel outputs of `a`, the routing bits of NR51 as 45 to 0. -/
def terminalSum (t : Terminal) (a : Apu) : Nat :=
  let k := match t with
    | .left => 4
    | .right => 0
  (if a.regs.nr51.getLsbD k then (channelOutput Config.params .ch1 a).toNat else 0) +
  (if a.regs.nr51.getLsbD (k + 1) then (channelOutput Config.params .ch2 a).toNat else 0) +
  (if a.regs.nr51.getLsbD (k + 2) then (channelOutput Config.params .ch3 a).toNat else 0) +
  (if a.regs.nr51.getLsbD (k + 3) then (channelOutput Config.params .ch4 a).toNat else 0)

/-- The duty patterns of 30_encoding.md R125, step 0 first. -/
def dutyPatterns : List (List Bool) :=
  [ [false, false, false, false, false, false, false, true],
    [true, false, false, false, false, false, false, true],
    [true, false, false, false, false, true, true, true],
    [false, true, true, true, true, true, true, false] ]

/-- The high steps of each duty pattern. -/
def highSteps : List Nat := [1, 2, 4, 6]

/-- The noise divisors of R126. -/
def divisors : List Nat := [8, 16, 32, 48, 64, 80, 96, 112]

end Sys2Proof.Claims

section
open Sys2Proof Sys2Proof.Machine Sys2Proof.Claims

/-! ### Encoding -/

/-- Words written out from R112 to R115, one or more of each family, decode to the operation they stand for, and an
address that only looks like NR10 is not NR10 (R116). The word is the spec's own notation (D2; log entry 6). -/
def Obligations.SpecWordsDecode : Prop :=
  decode 0x00000000 = .ok .step ∧ decode 0x30000000 = .ok .sample ∧
  decode 0x40000000 = .ok (.reset false) ∧ decode 0x40000001 = .ok (.reset true) ∧
  decode 0x10FF1011 = .ok (.wrNr10 0x11) ∧ decode 0x10FF12F3 = .ok (.wrNr12 0xF3) ∧
  decode 0x10FF18D6 = .ok (.wrNr23 0xD6) ∧ decode 0x10FF1E87 = .ok (.wrNr34 0x87) ∧
  decode 0x10FF22F7 = .ok (.wrNr43 0xF7) ∧ decode 0x10FF2577 = .ok (.wrNr51 0x77) ∧
  decode 0x10FF2680 = .ok (.wrNr52 0x80) ∧ decode 0x10FF3F5A = .ok (.wrWave 15 0x5A) ∧
  decode 0x20FF2600 = .ok .rdNr52 ∧ decode 0x20FF1000 = .ok .rdNr10 ∧ decode 0x20FF3100 = .ok (.rdWave 1) ∧
  decode 0x10FF15AA = .ok (.wrUnmapped 0xFF15 0xAA) ∧ decode 0x20FF2700 = .ok (.rdUnmapped 0xFF27) ∧
  decode 0x107F1000 = .ok (.wrUnmapped 0x7F10 0x00)

/-- Decoding the encoding of any well-formed operation gives it back: no bit of an encoding is dropped (R112 to R116,
D2; log entry 6). -/
def Obligations.DecodeOfEncodeIsIdentity : Prop :=
  ∀ i : Instr, i.wf = true → decode (encode i) = .ok i

/-- Every word that decodes is the encoding of the well-formed operation it decodes to: one word per operation
(R116, D2; log entry 6). -/
def Obligations.EncodeOfDecodeIsIdentity : Prop :=
  ∀ (w : TraceWord) (i : Instr), decode w = .ok i → encode i = w ∧ i.wf = true

/-- The decoder refuses exactly the words R130 names: `kind` 5..15, `zero` not 0, or a must-be-zero bit set (D2; log
entry 6). A `RD` with `data` not 0 is refused at an unmapped address too, where R116's words on the mask of the unmapped
row differ from R112, R115 and the table (log entry 6). -/
def Obligations.ReservedTraceWordsRefused : Prop :=
  ∀ w : TraceWord, (∃ e, decode w = .error e) ↔
    (w.toNat / 2 ^ 24 % 16 ≠ 0 ∨ w.toNat / 2 ^ 28 ≥ 5 ∨
      ((w.toNat / 2 ^ 28 = 0 ∨ w.toNat / 2 ^ 28 = 3) ∧ w.toNat % 2 ^ 24 ≠ 0) ∨
      (w.toNat / 2 ^ 28 = 4 ∧ w.toNat % 2 ^ 24 ≥ 2) ∨
      (w.toNat / 2 ^ 28 = 2 ∧ w.toNat % 2 ^ 8 ≠ 0))

/-- The decoder is first-match decoding over the 49 rows of opcode_table.json (R116, D2, D26; log entry 6): it answers
an operation of the first row the word matches, and refuses exactly the words no row matches. The masks are the
table's, that of RD_UNMAPPED 0xFF0000FF, where R116's words would leave `data` out (log entry 6). -/
def Obligations.DecoderFollowsOpcodeTable : Prop :=
  ∀ w : TraceWord, firstRow w = (match decode w with | .ok i => some i.row | .error _ => none)

/-! ### The step -/

/-- When the next trace word decodes, the step is `exec` of that operation on the state with the word taken off; so the
statements about `exec` reach a run (log entry 3 says why the host's operations stand in the state). -/
def Obligations.StepRunsDecodedOperation : Prop :=
  ∀ (s : State) (w : TraceWord) (rest : List TraceWord) (i : Instr),
    s.trace = w :: rest → decode w = .ok i → step s = exec i { s with trace := rest }

/-- With no operation left to issue nothing changes (R375; log entry 4); a word that is no operation is refused by the
decoder's name for it (R130; log entry 6). -/
def Obligations.StepWithoutAnOperation : Prop :=
  (∀ s : State, s.trace = [] → step s = .next s) ∧
  (∀ (s : State) (w : TraceWord) (rest : List TraceWord) (e : DecodeError),
    s.trace = w :: rest → decode w = .error e → step s = .refused (.badTraceWord e))

/-- "Every operation with every operand value completes and leaves a defined state" (R360); an unmapped `WR` is a no-op
and an unmapped `RD` returns all ones (R282, R283). Nothing an operation does reaches the host's remaining operations,
and it returns at most one answer; that the host's operations and the answers stand in the state is the model's choice
(log entries 3 and 5). The same holds under `MODEL` = base whatever the other parameters are (R7; log entry 8); under
`MODEL` = extended every operation and every step is refused (R8, D16; log entry 14). -/
def Obligations.EveryOperationCompletes : Prop :=
  (∀ (i : Instr) (s : State), ∃ (a : Apu) (l : List Answer),
    exec i s = .next { apu := a, trace := s.trace, answers := l ++ s.answers } ∧ l.length ≤ 1) ∧
  (∀ (c : Config) (i : Instr) (s : State), c.model = .base → ∃ (a : Apu) (l : List Answer),
    execWith c i s = .next { apu := a, trace := s.trace, answers := l ++ s.answers } ∧ l.length ≤ 1) ∧
  (∀ (c : Config) (i : Instr) (s : State), c.model = .extended →
    execWith c i s = .refused .modelExtended ∧ stepWith c s = .refused .modelExtended) ∧
  (∀ (a : Addr) (v : Byte) (s : State), exec (.wrUnmapped a v) s = .next s) ∧
  (∀ (a : Addr) (s : State), exec (.rdUnmapped a) s = .next { s with answers := .byte 0xFF :: s.answers })

/-- A run whose remaining words are all operations never stops, however long, and takes one word a step (R360, R423,
R375; log entries 3 and 4). -/
def Obligations.LegalRunsNeverStop : Prop :=
  ∀ (k : Nat) (s : State), legalTrace s.trace = true →
    ∃ t : State, Host.Core.run Sys2Proof.core k s = .next t ∧ t.trace = s.trace.drop k

/-! ### Register writes -/

/-- An accepted `WR` to any of the 20 control registers stores the whole byte, changes no other stored byte, and leaves
`masterPower`, wave RAM, the frame sequencer, the sampler, the latched pair, the host's side and every channel the
register does not belong to unchanged (R280, R281, D9). -/
def Obligations.AcceptedWriteStoresWholeByte : Prop :=
  ∀ (x : CtrlReg) (v : Byte) (s : State), s.apu.masterPower = true →
    ∃ t : State, exec (Instr.ofWrite x v) s = .next t ∧
      (∀ y, t.apu.regs.get y = if y = x then v else s.apu.regs.get y) ∧
      t.apu.masterPower = true ∧ t.apu.waveRam = s.apu.waveRam ∧ t.apu.fs = s.apu.fs ∧
      t.apu.sampleTimer = s.apu.sampleTimer ∧ t.apu.left = s.apu.left ∧ t.apu.right = s.apu.right ∧
      t.trace = s.trace ∧ t.answers = s.answers ∧
      (owner x ≠ some .ch1 → t.apu.ch1 = s.apu.ch1 ∧ t.apu.sweep = s.apu.sweep) ∧
      (owner x ≠ some .ch2 → t.apu.ch2 = s.apu.ch2) ∧
      (owner x ≠ some .ch3 → t.apu.ch3 = s.apu.ch3) ∧
      (owner x ≠ some .ch4 → t.apu.ch4 = s.apu.ch4)

/-- While the power is off a `WR` to any of NR10 to NR51 changes nothing at all; a `WR` to wave RAM and a `WR NR52` take
effect (R278). -/
def Obligations.PowerGateIgnoresWrites : Prop :=
  ∀ s : State, s.apu.masterPower = false →
    (∀ (x : CtrlReg) (v : Byte), exec (Instr.ofWrite x v) s = .next s) ∧
    (∀ (k : BitVec 4) (v : Byte), exec (.wrWave k v) s =
      .next { s with apu := { s.apu with waveRam := memWrite s.apu.waveRam (0xFF30 + k.toNat) v } }) ∧
    (∀ v : Byte, ∃ t : State, exec (.wrNr52 v) s = .next t ∧ t.apu.masterPower = v.getLsbD 7)

/-- NR10, NR13, NR23, NR32, NR33, NR43, NR50, NR51: an accepted write stores the byte and nothing else changes, no
timer, no flag; the words and the fields of the byte are those of the rules (R191, R153, R173, R213, R214, R238, R311,
R312, R281). NR43's rule R238 carries the spec's decision D25 (log entry 12); the places of the fields are the standard
layout (D20, D24; PRESUMED, log entry 9). -/
def Obligations.StoreOnlyRegisters : Prop :=
  (∀ (v : Byte) (s : State), s.apu.masterPower = true →
    exec (.wrNr10 v) s = .next { s with apu := { s.apu with regs := { s.apu.regs with nr10 := v } } } ∧
    exec (.wrNr13 v) s = .next { s with apu := { s.apu with regs := { s.apu.regs with nr13 := v } } } ∧
    exec (.wrNr23 v) s = .next { s with apu := { s.apu with regs := { s.apu.regs with nr23 := v } } } ∧
    exec (.wrNr32 v) s = .next { s with apu := { s.apu with regs := { s.apu.regs with nr32 := v } } } ∧
    exec (.wrNr33 v) s = .next { s with apu := { s.apu with regs := { s.apu.regs with nr33 := v } } } ∧
    exec (.wrNr43 v) s = .next { s with apu := { s.apu with regs := { s.apu.regs with nr43 := v } } } ∧
    exec (.wrNr50 v) s = .next { s with apu := { s.apu with regs := { s.apu.regs with nr50 := v } } } ∧
    exec (.wrNr51 v) s = .next { s with apu := { s.apu with regs := { s.apu.regs with nr51 := v } } }) ∧
  (∀ v : Byte,
    encode (.wrNr10 v) = 0x10FF10#24 ++ v ∧ encode (.wrNr13 v) = 0x10FF13#24 ++ v ∧
    encode (.wrNr23 v) = 0x10FF18#24 ++ v ∧ encode (.wrNr32 v) = 0x10FF1C#24 ++ v ∧
    encode (.wrNr33 v) = 0x10FF1D#24 ++ v ∧ encode (.wrNr43 v) = 0x10FF22#24 ++ v ∧
    encode (.wrNr50 v) = 0x10FF24#24 ++ v ∧ encode (.wrNr51 v) = 0x10FF25#24 ++ v) ∧
  (∀ v : Byte,
    (sweepPeriodOf v).toNat = v.toNat / 16 % 8 ∧ sweepDownOf v = v.getLsbD 3 ∧ (sweepShiftOf v).toNat = v.toNat % 8 ∧
    (volumeShiftCodeOf v).toNat = v.toNat / 32 % 4 ∧ (masterVolumeOf .left v).toNat = v.toNat / 16 % 8 ∧
    (masterVolumeOf .right v).toNat = v.toNat % 8 ∧
    routedOf .left .ch4 v = v.getLsbD 7 ∧ routedOf .left .ch3 v = v.getLsbD 6 ∧ routedOf .left .ch2 v = v.getLsbD 5 ∧
    routedOf .left .ch1 v = v.getLsbD 4 ∧ routedOf .right .ch4 v = v.getLsbD 3 ∧ routedOf .right .ch3 v = v.getLsbD 2 ∧
    routedOf .right .ch2 v = v.getLsbD 1 ∧ routedOf .right .ch1 v = v.getLsbD 0) ∧
  (∀ lo hi : Byte, (freqOf lo hi).toNat % 256 = lo.toNat)

/-- NR11, NR21, NR41 load `64 - v[5:0]`, NR31 with `WAVE_LEN_MAX` = 64 the same, whatever `lengthEnable` is; `enabled` and
everything else is unchanged (R119, R151, R171, R212, R236; D14, D41; log entries 8 and 9). -/
def Obligations.LengthLoadRegisters : Prop :=
  ∀ (v : Byte) (s : State), s.apu.masterPower = true →
    exec (.wrNr11 v) s = .next { s with apu := { s.apu with
      regs := { s.apu.regs with nr11 := v }
      ch1 := { s.apu.ch1 with lengthCounter := BitVec.ofNat 7 (64 - v.toNat % 64) } } } ∧
    exec (.wrNr21 v) s = .next { s with apu := { s.apu with
      regs := { s.apu.regs with nr21 := v }
      ch2 := { s.apu.ch2 with lengthCounter := BitVec.ofNat 7 (64 - v.toNat % 64) } } } ∧
    exec (.wrNr31 v) s = .next { s with apu := { s.apu with
      regs := { s.apu.regs with nr31 := v }
      ch3 := { s.apu.ch3 with lengthCounter := BitVec.ofNat 9 (64 - v.toNat % 64) } } } ∧
    exec (.wrNr41 v) s = .next { s with apu := { s.apu with
      regs := { s.apu.regs with nr41 := v }
      ch4 := { s.apu.ch4 with lengthCounter := BitVec.ofNat 7 (64 - v.toNat % 64) } } }

/-- NR12, NR22, NR42: the byte is stored; if its bits 7:3 are all 0 the channel is disabled, and nothing else changes:
not `currentVolume`, not `envTimer`, and `enabled` is never set (R152, R172, R237). -/
def Obligations.EnvelopeRegistersClearEnabled : Prop :=
  (∀ (v : Byte) (s : State), s.apu.masterPower = true →
    exec (.wrNr12 v) s = .next { s with apu := { s.apu with
      regs := { s.apu.regs with nr12 := v }
      ch1 := { s.apu.ch1 with enabled := if v.toNat / 8 = 0 then false else s.apu.ch1.enabled } } } ∧
    exec (.wrNr22 v) s = .next { s with apu := { s.apu with
      regs := { s.apu.regs with nr22 := v }
      ch2 := { s.apu.ch2 with enabled := if v.toNat / 8 = 0 then false else s.apu.ch2.enabled } } } ∧
    exec (.wrNr42 v) s = .next { s with apu := { s.apu with
      regs := { s.apu.regs with nr42 := v }
      ch4 := { s.apu.ch4 with enabled := if v.toNat / 8 = 0 then false else s.apu.ch4.enabled } } }) ∧
  (∀ v : Byte, encode (.wrNr12 v) = 0x10FF12#24 ++ v ∧ encode (.wrNr22 v) = 0x10FF17#24 ++ v ∧
    encode (.wrNr42 v) = 0x10FF21#24 ++ v) ∧
  (∀ v : Byte, (initialVolumeOf v).toNat = v.toNat / 16 ∧ envUpOf v = v.getLsbD 3 ∧ (paceOf v).toNat = v.toNat % 8)

/-- NR30: the byte is stored; bit 7 = 0 disables CH3, bit 7 = 1 does not enable it, nothing else changes (R211). -/
def Obligations.WaveDacRegisterClearsEnabled : Prop :=
  (∀ (v : Byte) (s : State), s.apu.masterPower = true →
    exec (.wrNr30 v) s = .next { s with apu := { s.apu with
      regs := { s.apu.regs with nr30 := v }
      ch3 := { s.apu.ch3 with enabled := if v.toNat / 128 = 0 then false else s.apu.ch3.enabled } } }) ∧
  (∀ v : Byte, encode (.wrNr30 v) = 0x10FF1A#24 ++ v) ∧
  (∀ a : Apu, a.dacEnabled .ch3 = a.regs.nr30.getLsbD 7)

/-- NR14: with bit 7 = 0 only the store; with bit 7 = 1 the CH1 trigger on the new byte, its sweep part last. The order
and the condition of the immediate overflow check are the spec's resolution C1 (D28; R154, R165, R193): `enabled` becomes
the DAC view, then 0 again if `sweepShift` is not 0 and the calculation exceeds 2047. -/
def Obligations.Ch1TriggerRegister : Prop :=
  ∀ (v : Byte) (s : State), s.apu.masterPower = true →
    exec (.wrNr14 v) s =
      if v.toNat / 128 = 0 then .next { s with apu := { s.apu with regs := { s.apu.regs with nr14 := v } } }
      else .next { s with apu := { s.apu with
        regs := { s.apu.regs with nr14 := v }
        ch1 :=
          { enabled := decide (s.apu.regs.nr12.toNat / 8 ≠ 0 ∧
              ¬(s.apu.regs.nr10.toNat % 8 ≠ 0 ∧ swept (frequency s.apu.regs.nr13 v) s.apu.regs.nr10 > 2047))
            frequencyTimer := BitVec.ofNat 14 ((2048 - frequency s.apu.regs.nr13 v) * 4)
            lengthCounter := if s.apu.ch1.lengthCounter = 0#7 then 64#7 else s.apu.ch1.lengthCounter
            dutyStep := s.apu.ch1.dutyStep
            currentVolume := BitVec.ofNat 4 (s.apu.regs.nr12.toNat / 16)
            envTimer := BitVec.ofNat 3 (s.apu.regs.nr12.toNat % 8) }
        sweep :=
          { shadowFrequency := BitVec.ofNat 11 (frequency s.apu.regs.nr13 v)
            sweepTimer := BitVec.ofNat 4 (if period s.apu.regs.nr10 = 0 then 8 else period s.apu.regs.nr10)
            sweepEnabled := decide (period s.apu.regs.nr10 ≠ 0 ∨ s.apu.regs.nr10.toNat % 8 ≠ 0) } } }

/-- NR24: with bit 7 = 0 only the store; with bit 7 = 1 the CH2 trigger on the new byte (R174 and, for CH2, R165, which
carries the spec's decision D28): length reloaded to 64 only if 0, timer from the new frequency, volume and, as the
spec's decision D8 has it, envelope timer from NR22, `enabled` from the DAC view, `dutyStep` kept; no sweep part (log
entries 9, 12 and 13). -/
def Obligations.Ch2TriggerRegister : Prop :=
  (∀ (v : Byte) (s : State), s.apu.masterPower = true →
    exec (.wrNr24 v) s =
      if v.toNat / 128 = 0 then .next { s with apu := { s.apu with regs := { s.apu.regs with nr24 := v } } }
      else .next { s with apu := { s.apu with
        regs := { s.apu.regs with nr24 := v }
        ch2 :=
          { enabled := decide (s.apu.regs.nr22.toNat / 8 ≠ 0)
            frequencyTimer := BitVec.ofNat 14 ((2048 - frequency s.apu.regs.nr23 v) * 4)
            lengthCounter := if s.apu.ch2.lengthCounter = 0#7 then 64#7 else s.apu.ch2.lengthCounter
            dutyStep := s.apu.ch2.dutyStep
            currentVolume := BitVec.ofNat 4 (s.apu.regs.nr22.toNat / 16)
            envTimer := BitVec.ofNat 3 (s.apu.regs.nr22.toNat % 8) } } }) ∧
  (∀ v : Byte, encode (.wrNr24 v) = 0x10FF19#24 ++ v) ∧
  (∀ a : Apu, a.lengthEnable .ch2 = a.regs.nr24.getLsbD 6)

/-- NR34: with bit 7 = 0 only the store; with bit 7 = 1 the CH3 trigger on the new byte (R216, R225, with the default
`WAVE_LEN_MAX` = 64): length reloaded only if 0, timer reloaded, `position` 0, `enabled` from the DAC bit. -/
def Obligations.WaveTriggerRegister : Prop :=
  (∀ (v : Byte) (s : State), s.apu.masterPower = true →
    exec (.wrNr34 v) s =
      if v.toNat / 128 = 0 then .next { s with apu := { s.apu with regs := { s.apu.regs with nr34 := v } } }
      else .next { s with apu := { s.apu with
        regs := { s.apu.regs with nr34 := v }
        ch3 :=
          { enabled := decide (s.apu.regs.nr30.toNat / 128 ≠ 0)
            frequencyTimer := BitVec.ofNat 13 ((2048 - frequency s.apu.regs.nr33 v) * 2)
            lengthCounter := if s.apu.ch3.lengthCounter = 0#9 then 64#9 else s.apu.ch3.lengthCounter
            position := 0#5 } } }) ∧
  (∀ v : Byte, encode (.wrNr34 v) = 0x10FF1E#24 ++ v)

/-- NR44: with bit 7 = 0 only the store; with bit 7 = 1 the CH4 trigger (R239, R247): as the pulse trigger, with the
noise reload value, and `lfsr` to all ones. -/
def Obligations.NoiseTriggerRegister : Prop :=
  (∀ (v : Byte) (s : State), s.apu.masterPower = true →
    exec (.wrNr44 v) s =
      if v.toNat / 128 = 0 then .next { s with apu := { s.apu with regs := { s.apu.regs with nr44 := v } } }
      else .next { s with apu := { s.apu with
        regs := { s.apu.regs with nr44 := v }
        ch4 :=
          { enabled := decide (s.apu.regs.nr42.toNat / 8 ≠ 0)
            frequencyTimer :=
              BitVec.ofNat 22 (divisors.getD (s.apu.regs.nr43.toNat % 8) 0 * 2 ^ (s.apu.regs.nr43.toNat / 16))
            lengthCounter := if s.apu.ch4.lengthCounter = 0#7 then 64#7 else s.apu.ch4.lengthCounter
            currentVolume := BitVec.ofNat 4 (s.apu.regs.nr42.toNat / 16)
            envTimer := BitVec.ofNat 3 (s.apu.regs.nr42.toNat % 8)
            lfsr := 0x7FFF#15 } } }) ∧
  (∀ v : Byte, encode (.wrNr44 v) = 0x10FF23#24 ++ v)

/-- The source's trigger property: writing the trigger bit on a channel whose DAC is enabled enables it, also after a
length expiry; with the DAC off it leaves the channel disabled. For CH1 this needs that the immediate sweep check, as
the spec's resolution C1 makes it (D28), finds no overflow. -/
def Obligations.TriggerReactivatesChannel : Prop :=
  ∀ (n : ChanId) (v : Byte) (s : State), s.apu.masterPower = true → v.toNat / 128 = 1 →
    (n = .ch1 → s.apu.regs.nr10.toNat % 8 = 0 ∨ swept (frequency s.apu.regs.nr13 v) s.apu.regs.nr10 ≤ 2047) →
    ∃ t : State, exec (Instr.ofWrite n.nrx4 v) s = .next t ∧ t.apu.enabled n = s.apu.dacEnabled n

/-- `WR NR52` with bit 7 = 1 sets `masterPower` and changes nothing else: no channel is enabled or retriggered (R284,
R69). -/
def Obligations.PowerOnSetsOnlyPower : Prop :=
  ∀ (v : Byte) (s : State), v.getLsbD 7 = true →
    exec (.wrNr52 v) s = .next { s with apu := { s.apu with masterPower := true } }

/-- `WR NR52` with bit 7 = 0, whatever the other bits, clears the 20 stored bytes and every channel working register and
keeps wave RAM, the frame sequencer, the sample timer and the latched pair (R285; the extent is the spec's resolution
C5, D19, D34). -/
def Obligations.PowerOffClearsChannels : Prop :=
  ∀ (v : Byte) (s : State), v.getLsbD 7 = false →
    exec (.wrNr52 v) s = .next { s with apu :=
      { regs := ⟨0, 0, 0, 0, 0, 0, 0, 0, 0, 0, 0, 0, 0, 0, 0, 0, 0, 0, 0, 0⟩
        masterPower := false
        waveRam := s.apu.waveRam
        ch1 := ⟨false, 0, 0, 0, 0, 0⟩
        sweep := ⟨0, 0, false⟩
        ch2 := ⟨false, 0, 0, 0, 0, 0⟩
        ch3 := ⟨false, 0, 0, 0⟩
        ch4 := ⟨false, 0, 0, 0, 0, 0⟩
        fs := s.apu.fs
        sampleTimer := s.apu.sampleTimer
        left := s.apu.left
        right := s.apu.right } }

/-- The source's power-off property (R287, S7; the zero reads are the spec's resolution C2, D27): after a power-off every
`RD` of NR10 to NR51 returns 0, every `WR` to them is ignored, `RD NR52` returns 0x70, and wave RAM reads as before;
after the power is restored every one of the 20 registers reads as its bare mask, `READ_MASK` (R128, D12; log entry 8),
so NR13 as 0xFF, NR10 as 0x80 and NR12 as 0x00. -/
def Obligations.PoweredOffRegisterFile : Prop :=
  ∀ (v u : Byte) (s : State), v.getLsbD 7 = false → u.getLsbD 7 = true →
    ∃ t p : State, exec (.wrNr52 v) s = .next t ∧ exec (.wrNr52 u) t = .next p ∧
      (∀ x, exec (Instr.ofRead x) t = .next { t with answers := .byte 0x00 :: t.answers }) ∧
      (∀ x w, exec (Instr.ofWrite x w) t = .next t) ∧
      exec .rdNr52 t = .next { t with answers := .byte 0x70 :: t.answers } ∧
      (∀ k, exec (.rdWave k) t = .next { t with answers := .byte (memRead s.apu.waveRam (0xFF30 + k.toNat)) :: t.answers }) ∧
      exec .rdNr52 p = .next { p with answers := .byte 0xF0 :: p.answers } ∧
      (∀ x, exec (Instr.ofRead x) p = .next { p with answers := .byte (Config.params.readMask x) :: p.answers }) ∧
      exec .rdNr13 p = .next { p with answers := .byte 0xFF :: p.answers } ∧
      exec .rdNr10 p = .next { p with answers := .byte 0x80 :: p.answers } ∧
      exec .rdNr12 p = .next { p with answers := .byte 0x00 :: p.answers }

/-- `WR WAVE[k], v`, in both power states: byte k of wave RAM is v, every other byte of memory is as before, and nothing
else changes (R230). Memory is in its canonical form, which every step keeps. -/
def Obligations.WaveRamWrite : Prop :=
  (∀ (k : BitVec 4) (v : Byte) (s : State), Memory.wf s.apu.waveRam = true →
    ∃ m : Memory, exec (.wrWave k v) s = .next { s with apu := { s.apu with waveRam := m } } ∧
      Memory.wf m = true ∧ memRead m (0xFF30 + k.toNat) = v ∧
      ∀ x : Nat, x ≠ 0xFF30 + k.toNat → memRead m x = memRead s.apu.waveRam x) ∧
  (∀ (k : BitVec 4) (v : Byte), encode (.wrWave k v) = 0x10FF3#20 ++ k ++ v)

/-- Unmapped addresses are exactly those outside 0xFF30..0xFF3F that are not one of the 21 control addresses; a `WR`
there does nothing and a `RD` returns 0xFF, in both power states (R85, R86, R282, R283; D21, D26; log entry 9). -/
def Obligations.UnmappedAccesses : Prop :=
  (∀ a : Addr, isUnmapped a = true ↔
    ¬((0xFF10 ≤ a.toNat ∧ a.toNat ≤ 0xFF26 ∧ a.toNat ≠ 0xFF15 ∧ a.toNat ≠ 0xFF1F) ∨
      (0xFF30 ≤ a.toNat ∧ a.toNat ≤ 0xFF3F))) ∧
  (∀ (a : Addr) (v : Byte) (s : State), isUnmapped a = true →
    writeInstr a v = .wrUnmapped a v ∧ exec (writeInstr a v) s = .next s ∧
    readInstr a = .rdUnmapped a ∧ exec (readInstr a) s = .next { s with answers := .byte 0xFF :: s.answers })

/-! ### Reads -/

/-- With the power on, the pulse channels' registers read as the stored byte with the mask's bits set, and no state of the
block changes; the words are those of the rules (R175 to R182). The masks 0x3F, 0xFF, 0xBF and 0x00 are the values of
the open parameter `READ_MASK` (R128, D12; log entry 8). -/
def Obligations.PulseRegisterReads : Prop :=
  (∀ s : State, s.apu.masterPower = true →
    exec .rdNr11 s = .next { s with answers := .byte (s.apu.regs.nr11 ||| 0x3F) :: s.answers } ∧
    exec .rdNr12 s = .next { s with answers := .byte s.apu.regs.nr12 :: s.answers } ∧
    exec .rdNr13 s = .next { s with answers := .byte 0xFF :: s.answers } ∧
    exec .rdNr14 s = .next { s with answers := .byte (s.apu.regs.nr14 ||| 0xBF) :: s.answers } ∧
    exec .rdNr21 s = .next { s with answers := .byte (s.apu.regs.nr21 ||| 0x3F) :: s.answers } ∧
    exec .rdNr22 s = .next { s with answers := .byte s.apu.regs.nr22 :: s.answers } ∧
    exec .rdNr23 s = .next { s with answers := .byte 0xFF :: s.answers } ∧
    exec .rdNr24 s = .next { s with answers := .byte (s.apu.regs.nr24 ||| 0xBF) :: s.answers }) ∧
  encode .rdNr11 = 0x20FF1100 ∧ encode .rdNr12 = 0x20FF1200 ∧ encode .rdNr13 = 0x20FF1300 ∧
  encode .rdNr14 = 0x20FF1400 ∧ encode .rdNr21 = 0x20FF1600 ∧ encode .rdNr22 = 0x20FF1700 ∧
  encode .rdNr23 = 0x20FF1800 ∧ encode .rdNr24 = 0x20FF1900

/-- The same for the wave and noise channels' registers (R217 to R221, R240, R241, R243, R244). The masks are the values of
the open parameter `READ_MASK` (R128, D12; log entry 8). -/
def Obligations.WaveNoiseRegisterReads : Prop :=
  (∀ s : State, s.apu.masterPower = true →
    exec .rdNr30 s = .next { s with answers := .byte (s.apu.regs.nr30 ||| 0x7F) :: s.answers } ∧
    exec .rdNr31 s = .next { s with answers := .byte 0xFF :: s.answers } ∧
    exec .rdNr32 s = .next { s with answers := .byte (s.apu.regs.nr32 ||| 0x9F) :: s.answers } ∧
    exec .rdNr33 s = .next { s with answers := .byte 0xFF :: s.answers } ∧
    exec .rdNr34 s = .next { s with answers := .byte (s.apu.regs.nr34 ||| 0xBF) :: s.answers } ∧
    exec .rdNr41 s = .next { s with answers := .byte 0xFF :: s.answers } ∧
    exec .rdNr42 s = .next { s with answers := .byte s.apu.regs.nr42 :: s.answers } ∧
    exec .rdNr43 s = .next { s with answers := .byte s.apu.regs.nr43 :: s.answers } ∧
    exec .rdNr44 s = .next { s with answers := .byte (s.apu.regs.nr44 ||| 0xBF) :: s.answers }) ∧
  encode .rdNr30 = 0x20FF1A00 ∧ encode .rdNr31 = 0x20FF1B00 ∧ encode .rdNr32 = 0x20FF1C00 ∧
  encode .rdNr33 = 0x20FF1D00 ∧ encode .rdNr34 = 0x20FF1E00 ∧ encode .rdNr41 = 0x20FF2000 ∧
  encode .rdNr42 = 0x20FF2100 ∧ encode .rdNr43 = 0x20FF2200 ∧ encode .rdNr44 = 0x20FF2300

/-- NR10, NR50 and NR51 in both power states: the stored byte (NR10 with bit 7 reading 1) while the power is on, 0x00 while
it is off (R192, R313, R314). The 0x00 with the power off is the spec's resolution C2 (D27; log entries 12 and 13), and
NR10's mask 0x80 is a value of the open parameter `READ_MASK` (R128, D12; log entry 8). -/
def Obligations.SweepAndMixerRegisterReads : Prop :=
  (∀ s : State,
    exec .rdNr10 s = .next { s with
      answers := .byte (if s.apu.masterPower then s.apu.regs.nr10 ||| 0x80 else 0x00) :: s.answers } ∧
    exec .rdNr50 s = .next { s with
      answers := .byte (if s.apu.masterPower then s.apu.regs.nr50 else 0x00) :: s.answers } ∧
    exec .rdNr51 s = .next { s with
      answers := .byte (if s.apu.masterPower then s.apu.regs.nr51 else 0x00) :: s.answers }) ∧
  encode .rdNr10 = 0x20FF1000 ∧ encode .rdNr50 = 0x20FF2400 ∧ encode .rdNr51 = 0x20FF2500

/-- While the power is off a `RD` of any of the 20 control registers returns 0x00, with no read mask: the spec's
resolution C2 (R290, D27). -/
def Obligations.ReadsAreZeroWithPowerOff : Prop :=
  ∀ (x : CtrlReg) (s : State), s.apu.masterPower = false →
    exec (Instr.ofRead x) s = .next { s with answers := .byte 0x00 :: s.answers }

/-- `RD NR52` returns the power bit, three ones and the four live `enabled` flags, in both power states, and 0x70 with the
power off (R292). -/
def Obligations.StatusRegisterRead : Prop :=
  (∀ s : State, exec .rdNr52 s = .next { s with
    answers := .byte (BitVec.ofNat 8 (s.apu.masterPower.toNat * 128 + 112 + s.apu.ch4.enabled.toNat * 8 +
      s.apu.ch3.enabled.toNat * 4 + s.apu.ch2.enabled.toNat * 2 + s.apu.ch1.enabled.toNat)) :: s.answers }) ∧
  (∀ s : State, s.apu.Inv → s.apu.masterPower = false →
    exec .rdNr52 s = .next { s with answers := .byte 0x70 :: s.answers }) ∧
  encode .rdNr52 = 0x20FF2600

/-- `RD WAVE[k]` returns byte k, all 8 bits, in every state; a power-off or power-on does not change it, and after a
`RESET` it reads 0x00 (R231). The 0x00 after a `RESET` is R70's, the spec's decision D18 (log entry 7), and that
`RESET 0` writes no wave RAM is D13 (log entry 8). -/
def Obligations.WaveRamRead : Prop :=
  (∀ (k : BitVec 4) (s : State), exec (.rdWave k) s =
    .next { s with answers := .byte (memRead s.apu.waveRam (0xFF30 + k.toNat)) :: s.answers }) ∧
  (∀ (v : Byte) (s : State), ∃ t : State, exec (.wrNr52 v) s = .next t ∧ t.apu.waveRam = s.apu.waveRam) ∧
  (∀ (b : Bool) (k : BitVec 4) (s : State), ∃ t : State, exec (.reset b) s = .next t ∧
    exec (.rdWave k) t = .next { t with answers := .byte 0x00 :: t.answers }) ∧
  (∀ k : BitVec 4, encode (.rdWave k) = 0x20FF3#20 ++ k ++ 0x00#8)

/-- `SAMPLE` returns the latched pair and changes nothing in the block (R320, R91; D36, the spec's resolution C6). -/
def Obligations.SampleReturnsLatchedPair : Prop :=
  ∀ s : State, exec .sample s = .next { s with answers := .pair s.apu.left s.apu.right :: s.answers }

/-! ### Reset -/

/-- `RESET 1` from any state gives the reset values of R70: all zero but `fs.counter` = 8192. The values are the spec's
decision D18. -/
def Obligations.ResetWithBootRom : Prop :=
  ∀ s : State, exec (.reset true) s = .next { s with apu :=
    { regs := ⟨0, 0, 0, 0, 0, 0, 0, 0, 0, 0, 0, 0, 0, 0, 0, 0, 0, 0, 0, 0⟩
      masterPower := false
      waveRam := []
      ch1 := ⟨false, 0, 0, 0, 0, 0⟩
      sweep := ⟨0, 0, false⟩
      ch2 := ⟨false, 0, 0, 0, 0, 0⟩
      ch3 := ⟨false, 0, 0, 0⟩
      ch4 := ⟨false, 0, 0, 0, 0, 0⟩
      fs := ⟨8192, 0⟩
      sampleTimer := 0
      left := 0
      right := 0 } }

/-- `RESET 0` from any state gives the post-boot state of R396, complete. Nine of its stored bytes and the order of the
writes are the spec's decision D13 (log entry 8). -/
def Obligations.ResetWithoutBootRom : Prop :=
  ∀ s : State, exec (.reset false) s = .next { s with apu :=
    { regs := ⟨0x80, 0xBF, 0xF3, 0xFF, 0xBF, 0x3F, 0x00, 0xFF, 0xBF, 0x7F, 0xFF, 0x9F, 0xFF, 0xBF, 0xFF, 0x00, 0x00,
        0xBF, 0x77, 0xF3⟩
      masterPower := true
      waveRam := []
      ch1 := ⟨true, 4, 1, 0, 15, 3⟩
      sweep := ⟨2047, 8, false⟩
      ch2 := ⟨false, 4, 1, 0, 0, 0⟩
      ch3 := ⟨false, 2, 1, 0⟩
      ch4 := ⟨false, 8, 1, 0, 0, 0x7FFF⟩
      fs := ⟨8192, 0⟩
      sampleTimer := 0
      left := 0
      right := 0 } }

/-- The source's end-to-end property: after `RESET 0` every control register reads back its boot default, and NR52 reads
0xF1 (R397, S8; nine of the bytes are D13, log entry 8). So the boot list meets what R394 asks of any replacement. -/
def Obligations.ResetReadsBackDefaults : Prop :=
  BootReadsBack Config.params ∧
  ∀ s : State, ∃ t : State, exec (.reset false) s = .next t ∧
    (∀ x v, (x, v) ∈ [(CtrlReg.nr10, (0x80 : Byte)), (.nr11, 0xBF), (.nr12, 0xF3), (.nr13, 0xFF), (.nr14, 0xBF),
        (.nr21, 0x3F), (.nr22, 0x00), (.nr23, 0xFF), (.nr24, 0xBF), (.nr30, 0x7F), (.nr31, 0xFF), (.nr32, 0x9F),
        (.nr33, 0xFF), (.nr34, 0xBF), (.nr41, 0xFF), (.nr42, 0x00), (.nr43, 0x00), (.nr44, 0xBF), (.nr50, 0x77),
        (.nr51, 0xF3)] →
      exec (Instr.ofRead x) t = .next { t with answers := .byte v :: t.answers }) ∧
    exec .rdNr52 t = .next { t with answers := .byte 0xF1 :: t.answers }

/-! ### STEP, part by part -/

/-- What a `STEP` leaves unchanged (R340, R341; D5, D32): `masterPower`, wave RAM, every stored byte but NR13 and NR14[2:0],
`sweepEnabled`, the host's side; and it never sets an `enabled` flag. -/
def Obligations.StepFrame : Prop :=
  ∀ s : State, ∃ t : State, exec .step s = .next t ∧
    t.trace = s.trace ∧ t.answers = s.answers ∧ t.apu.masterPower = s.apu.masterPower ∧
    t.apu.waveRam = s.apu.waveRam ∧ t.apu.sweep.sweepEnabled = s.apu.sweep.sweepEnabled ∧
    (∀ x, x ≠ .nr13 → x ≠ .nr14 → t.apu.regs.get x = s.apu.regs.get x) ∧
    t.apu.regs.nr14.toNat / 8 = s.apu.regs.nr14.toNat / 8 ∧
    (∀ n, t.apu.enabled n = true → s.apu.enabled n = true)

/-- The frequency timers of CH1 and CH2 in a `STEP`: one down, and at 0 the reload value of the live frequency as the
`STEP` leaves it (a sweep commit of the same `STEP` is seen) and one duty step, whatever `enabled` and the power are. A
timer found at 0 reloads at once (R155, R340; D5, D6, D32). -/
def Obligations.PulseTimersInStep : Prop :=
  ∀ (n : PulseId) (s : State), ∃ t : State, exec .step s = .next t ∧
    if (s.apu.pulse n).frequencyTimer.toNat ≤ 1 then
      (t.apu.pulse n).frequencyTimer.toNat =
        (2048 - frequency (t.apu.regs.get n.nrx3) (t.apu.regs.get n.nrx4)) * 4 ∧
      (t.apu.pulse n).dutyStep.toNat = ((s.apu.pulse n).dutyStep.toNat + 1) % 8
    else
      (t.apu.pulse n).frequencyTimer.toNat = (s.apu.pulse n).frequencyTimer.toNat - 1 ∧
      (t.apu.pulse n).dutyStep = (s.apu.pulse n).dutyStep

/-- CH3's timer in a `STEP`: reload `(2048 - frequency) * 2` and the next of 32 positions (R223; D6, D32). -/
def Obligations.WaveTimerInStep : Prop :=
  ∀ s : State, ∃ t : State, exec .step s = .next t ∧
    if s.apu.ch3.frequencyTimer.toNat ≤ 1 then
      t.apu.ch3.frequencyTimer.toNat = (2048 - frequency s.apu.regs.nr33 s.apu.regs.nr34) * 2 ∧
      t.apu.ch3.position.toNat = (s.apu.ch3.position.toNat + 1) % 32
    else
      t.apu.ch3.frequencyTimer.toNat = s.apu.ch3.frequencyTimer.toNat - 1 ∧
      t.apu.ch3.position = s.apu.ch3.position

/-- CH4's timer in a `STEP`: reload `NOISE_DIVISOR[c] << s` and one LFSR shift, in which every bit takes its upper
neighbour, but bit 14, and in 7-bit mode bit 6 too, the exclusive or of bits 0 and 1 (R242; D6, D11, D25, D32; log
entry 8). -/
def Obligations.NoiseTimerInStep : Prop :=
  ∀ s : State, ∃ t : State, exec .step s = .next t ∧
    if s.apu.ch4.frequencyTimer.toNat ≤ 1 then
      t.apu.ch4.frequencyTimer.toNat =
        divisors.getD (s.apu.regs.nr43.toNat % 8) 0 * 2 ^ (s.apu.regs.nr43.toNat / 16) ∧
      ∀ i, i < 15 → t.apu.ch4.lfsr.getLsbD i =
        if i = 14 ∨ (i = 6 ∧ s.apu.regs.nr43.getLsbD 3 = true) then
          (s.apu.ch4.lfsr.getLsbD 0 ^^ s.apu.ch4.lfsr.getLsbD 1)
        else s.apu.ch4.lfsr.getLsbD (i + 1)
    else
      t.apu.ch4.frequencyTimer.toNat = s.apu.ch4.frequencyTimer.toNat - 1 ∧ t.apu.ch4.lfsr = s.apu.ch4.lfsr

/-- The frame sequencer in a `STEP`: one down; at 0 the counter is 8192 again and the step advances modulo 8, whatever
the power is (R261, R265; D32). -/
def Obligations.FrameSequencerInStep : Prop :=
  ∀ s : State, 1 ≤ s.apu.fs.counter.toNat → ∃ t : State, exec .step s = .next t ∧
    if s.apu.fs.counter.toNat = 1 then
      t.apu.fs.counter.toNat = 8192 ∧ t.apu.fs.step.toNat = (s.apu.fs.step.toNat + 1) % 8
    else t.apu.fs.counter.toNat = s.apu.fs.counter.toNat - 1 ∧ t.apu.fs.step = s.apu.fs.step

/-- The length clocks in a `STEP`: on frame-sequencer steps 0, 2, 4, 6 each counter with `lengthEnable` goes one down,
never below 0, and a channel whose counter reaches 0 is disabled; on every other `STEP` the counters stay. CH2, CH3 and
CH4 are disabled by nothing else in a `STEP` (R157, R262; D7, D35, D40). -/
def Obligations.LengthClockInStep : Prop :=
  ∀ (n : ChanId) (s : State), ∃ t : State, exec .step s = .next t ∧
    (lengthCounter n t.apu =
      if frameDue s.apu ∧ s.apu.fs.step.toNat % 2 = 0 ∧ s.apu.lengthEnable n = true then lengthCounter n s.apu - 1
      else lengthCounter n s.apu) ∧
    (n ≠ .ch1 → (t.apu.enabled n = true ↔ s.apu.enabled n = true ∧
      ¬(frameDue s.apu ∧ s.apu.fs.step.toNat % 2 = 0 ∧ s.apu.lengthEnable n = true ∧ lengthCounter n s.apu = 1)))

/-- The envelope clocks in a `STEP`: on frame-sequencer step 7, with `pace` not 0, the timer goes one down and at 0 (or
found at 0) reloads with `pace` and the volume moves one step, clamped to 0..15; on every other `STEP` both stay (R160,
R262; D8, D40). -/
def Obligations.EnvelopeClockInStep : Prop :=
  ∀ (n : EnvId) (s : State), ∃ t : State, exec .step s = .next t ∧
    if frameDue s.apu ∧ s.apu.fs.step = 7#3 ∧ (envByte n s.apu).toNat % 8 ≠ 0 then
      if envTimer n s.apu ≤ 1 then
        envTimer n t.apu = (envByte n s.apu).toNat % 8 ∧
        volume n t.apu =
          if (envByte n s.apu).getLsbD 3 then min 15 (volume n s.apu + 1) else volume n s.apu - 1
      else envTimer n t.apu = envTimer n s.apu - 1 ∧ volume n t.apu = volume n s.apu
    else envTimer n t.apu = envTimer n s.apu ∧ volume n t.apu = volume n s.apu

/-- The sweep clock in a `STEP` (R194, R195, R262; D6, D29): on frame-sequencer steps 2 and 6 the timer goes one down and
at 0 (or found at 0) reloads; then, with period not 0 and the unit enabled, an overflow disables CH1 and commits nothing,
and otherwise a shift not 0 commits the new frequency to the shadow, NR13 and NR14[2:0] and disables CH1 if the next
calculation overflows. On every other `STEP` the unit and the stored bytes stay. -/
def Obligations.SweepClockInStep : Prop :=
  ∀ s : State, ∃ t : State, exec .step s = .next t ∧
    let r := s.apu.regs.nr10
    let new := swept s.apu.sweep.shadowFrequency.toNat r
    let fires := frameDue s.apu ∧ (s.apu.fs.step = 2#3 ∨ s.apu.fs.step = 6#3)
    let calculates := fires ∧ s.apu.sweep.sweepTimer.toNat ≤ 1 ∧ period r ≠ 0 ∧ s.apu.sweep.sweepEnabled = true
    let commits := calculates ∧ new ≤ 2047 ∧ r.toNat % 8 ≠ 0
    let lengthKeeps := ¬(frameDue s.apu ∧ s.apu.fs.step.toNat % 2 = 0 ∧ s.apu.lengthEnable .ch1 = true ∧
      s.apu.ch1.lengthCounter = 1#7)
    (fires → t.apu.sweep.sweepTimer.toNat =
      if s.apu.sweep.sweepTimer.toNat ≤ 1 then (if period r = 0 then 8 else period r)
      else s.apu.sweep.sweepTimer.toNat - 1) ∧
    (¬fires → t.apu.sweep = s.apu.sweep) ∧
    (commits → t.apu.sweep.shadowFrequency.toNat = new ∧ t.apu.regs.nr13.toNat = new % 256 ∧
      t.apu.regs.nr14.toNat = s.apu.regs.nr14.toNat / 8 * 8 + new / 256) ∧
    (¬commits → t.apu.sweep.shadowFrequency = s.apu.sweep.shadowFrequency ∧ t.apu.regs = s.apu.regs) ∧
    (t.apu.ch1.enabled = true ↔ s.apu.ch1.enabled = true ∧ lengthKeeps ∧
      ¬(calculates ∧ (new > 2047 ∨ (r.toNat % 8 ≠ 0 ∧ swept new r > 2047))))

/-- The sampler in a `STEP` (R318, R316, R317; D15, D17; log entry 8): 44100 more, and at 4194304 the remainder is kept and
each terminal latches `floor(sum * volume * 255 / 420)` of the outputs the `STEP` leaves; otherwise the pair stays. -/
def Obligations.SamplerInStep : Prop :=
  ∀ s : State, ∃ t : State, exec .step s = .next t ∧
    (4194304 ≤ s.apu.sampleTimer.toNat + 44100 →
      t.apu.sampleTimer.toNat = s.apu.sampleTimer.toNat + 44100 - 4194304 ∧
      t.apu.left.toNat = terminalSum .left t.apu * (t.apu.regs.nr50.toNat / 16 % 8) * 255 / 420 ∧
      t.apu.right.toNat = terminalSum .right t.apu * (t.apu.regs.nr50.toNat % 8) * 255 / 420) ∧
    (s.apu.sampleTimer.toNat + 44100 < 4194304 →
      t.apu.sampleTimer.toNat = s.apu.sampleTimer.toNat + 44100 ∧ t.apu.left = s.apu.left ∧ t.apu.right = s.apu.right)

/-- The four channel outputs (R161, R222, R245, with the duty table of R125; D10, D23, D24, D33; log entries 8 and 9): 0
unless `enabled` and the DAC are both on; the duty bit times the volume; the nibble at `position` shifted by the level
code; the volume when bit 0 of the LFSR is 0. -/
def Obligations.ChannelOutputs : Prop :=
  ∀ a : Apu,
    (∀ n, a.audible n = false → channelOutput Config.params n a = 0) ∧
    (∀ n : PulseId, a.audible n.chan = true → channelOutput Config.params n.chan a =
      if (dutyPatterns.getD ((a.regs.get n.nrx1).toNat / 64) []).getD (a.pulse n).dutyStep.toNat false then
        (a.pulse n).currentVolume
      else 0) ∧
    (a.audible .ch3 = true → (channelOutput Config.params .ch3 a).toNat =
      let byte := (memRead a.waveRam (0xFF30 + a.ch3.position.toNat / 2)).toNat
      let nibble := if a.ch3.position.toNat % 2 = 0 then byte / 16 else byte % 16
      let code := a.regs.nr32.toNat / 32 % 4
      if code = 0 then 0 else nibble / 2 ^ (code - 1)) ∧
    (a.audible .ch4 = true → channelOutput Config.params .ch4 a =
      if a.ch4.lfsr.toNat % 2 = 0 then a.ch4.currentVolume else 0)

/-! ### Many STEPs -/

/-- The frame sequencer after n `STEP`s: the step advances exactly once per 8192 `STEP`s and cycles 0..7 (R261, R264,
R68; D18, D32). -/
def Obligations.FrameSequencerPeriod : Prop :=
  ∀ (n : Nat) (a : Apu), 1 ≤ a.fs.counter.toNat → a.fs.counter.toNat ≤ 8192 →
    (cycles n a).fs.counter.toNat = 8192 - (8192 - a.fs.counter.toNat + n) % 8192 ∧
    (cycles n a).fs.step.toNat = (a.fs.step.toNat + (8192 - a.fs.counter.toNat + n) / 8192) % 8

/-- The sample accumulator after n `STEP`s is exact: no drift, and 4194304 `STEP`s bring it back (R318, R319; D17). -/
def Obligations.SampleClockIsExact : Prop :=
  (∀ (n : Nat) (a : Apu), (cycles n a).sampleTimer.toNat = (a.sampleTimer.toNat + n * 44100) % 4194304) ∧
  (∀ a : Apu, (cycles 4194304 a).sampleTimer = a.sampleTimer)

/-- With its timer inside one period R = (2048 - frequency) * 4, CH2 expires exactly every R `STEP`s: timer and duty step
after n `STEP`s in closed form (R155, R156; D6, D32). -/
def Obligations.PulseTimerPeriod : Prop :=
  ∀ (n : Nat) (a : Apu),
    let R := (2048 - frequency a.regs.nr23 a.regs.nr24) * 4
    1 ≤ a.ch2.frequencyTimer.toNat → a.ch2.frequencyTimer.toNat ≤ R →
    (cycles n a).ch2.frequencyTimer.toNat = R - (R - a.ch2.frequencyTimer.toNat + n) % R ∧
    (cycles n a).ch2.dutyStep.toNat = (a.ch2.dutyStep.toNat + (R - a.ch2.frequencyTimer.toNat + n) / R) % 8

/-- The source's duty property, on CH2 (R162, S2; the table is D10, the ratios the source's): over one full period of
8 reload lengths, with the channel playing, its length and envelope off and its volume not 0, the output is the volume
on exactly 1, 2, 4, 6 of every 8 `STEP`s for patterns 0, 1, 2, 3, and 0 on the rest. -/
def Obligations.DutyRatioOverOnePeriod : Prop :=
  ∀ a : Apu,
    let R := (2048 - frequency a.regs.nr23 a.regs.nr24) * 4
    let out := fun k => channelOutput Config.params .ch2 (cycles (k + 1) a)
    a.audible .ch2 = true → a.lengthEnable .ch2 = false → a.regs.nr22.toNat % 8 = 0 → a.ch2.currentVolume ≠ 0#4 →
    1 ≤ a.ch2.frequencyTimer.toNat → a.ch2.frequencyTimer.toNat ≤ R →
    ((Finset.range (8 * R)).filter fun k => out k = a.ch2.currentVolume).card =
      highSteps.getD (a.regs.nr21.toNat / 64) 0 * R ∧
    ∀ k, out k = a.ch2.currentVolume ∨ out k = 0#4

/-- CH3 moves to the next of its 32 samples exactly every R = (2048 - frequency) * 2 `STEP`s (R223, R224; D6, D32). -/
def Obligations.WavePositionPeriod : Prop :=
  ∀ (n : Nat) (a : Apu),
    let R := (2048 - frequency a.regs.nr33 a.regs.nr34) * 2
    1 ≤ a.ch3.frequencyTimer.toNat → a.ch3.frequencyTimer.toNat ≤ R →
    (cycles n a).ch3.frequencyTimer.toNat = R - (R - a.ch3.frequencyTimer.toNat + n) % R ∧
    (cycles n a).ch3.position.toNat = (a.ch3.position.toNat + (R - a.ch3.frequencyTimer.toNat + n) / R) % 32

/-- The source's length property (R157, S5; D7 for the counter at 0): with the length enabled and the counter at N, the
channel stays enabled through N - 1 length clocks and is disabled on the N-th, and the counter then stays 0. -/
def Obligations.LengthExpiresOnNthClock : Prop :=
  ∀ (n : ChanId) (a : Apu) (N : Nat), a.lengthEnable n = true → a.enabled n = true → lengthCounter n a = N → 0 < N →
    (∀ k, k < N → ((clock256Hz n)^[k] a).enabled n = true ∧ lengthCounter n ((clock256Hz n)^[k] a) = N - k) ∧
    (∀ k, N ≤ k → ((clock256Hz n)^[k] a).enabled n = false ∧ lengthCounter n ((clock256Hz n)^[k] a) = 0)

/-- The LFSR (R242, R248): 0 is a fixed point of the shift in both modes; in 15-bit mode the shift loses nothing, so that 0
is never reached from another value. -/
def Obligations.LfsrShiftLosesNothing : Prop :=
  (∀ short, lfsrShift short 0#15 = 0#15) ∧
  (∀ l l' : BitVec 15, lfsrShift false l = lfsrShift false l' → l = l') ∧
  (∀ (l : BitVec 15) (k : Nat), l ≠ 0#15 → (lfsrShift false)^[k] l ≠ 0#15)

/-- The sweep calculation is exact: `shadow ± (shadow >> sweepShift)`, at most 4094 adding and at most 2047 subtracting,
so subtraction never overflows; with shift 0 it doubles or gives 0 (R196). -/
def Obligations.SweepCalculationIsExact : Prop :=
  ∀ (f : BitVec 11) (r : Byte),
    sweepCalc f r = swept f.toNat r ∧
    (r.getLsbD 3 = false → sweepCalc f r ≤ 4094) ∧ (r.getLsbD 3 = true → sweepCalc f r ≤ 2047) ∧
    (r.toNat % 8 = 0 → sweepCalc f r = if r.getLsbD 3 then 0 else 2 * f.toNat)

/-- The mixer's bounds and what any `MIX_SCALE` must keep (R316, R317; D15; log entry 8): a terminal's sum is at most 60, the
scaled value is at most 255 so that the 8-bit sample loses nothing, the scale is monotone, and 0 for a sum of 0; under
any parameters that keep what R7 settles the sample is the scale of the sum. The parameters of this model are such. -/
def Obligations.MixerBounds : Prop :=
  Config.params.Valid ∧
  (∀ (c : Config) (t : Terminal) (a : Apu), c.Valid →
    mixSum c t a ≤ 60 ∧ (mix c t a).toNat = c.mixScale (mixSum c t a) (masterVolumeOf t a.regs.nr50).toNat) ∧
  ∀ (t : Terminal) (a : Apu),
    mixSum Config.params t a = terminalSum t a ∧ terminalSum t a ≤ 60 ∧
    (mix Config.params t a).toNat = terminalSum t a * (masterVolumeOf t a.regs.nr50).toNat * 255 / 420

/-! ### Invariants and whole-machine rules -/

/-- The invariant holds right after reset. -/
def Obligations.ResetSatisfiesInvariant : Prop := State.reset.apu.Inv

/-- Every step keeps the invariant, from every state that meets it: the working registers stay in their ranges (R48, R49,
R55, R59), an enabled channel has its DAC on (R66), with the power off the block is cleared (R67), and memory stays in
its canonical form. So does the machine under any parameters that keep what R7 settles; the bound on a divisor is the
model's (log entry 10). -/
def Obligations.StepKeepsInvariant : Prop :=
  (∀ s t : State, s.apu.Inv → step s = .next t → t.apu.Inv) ∧
  (∀ (c : Config) (s t : State), c.Valid → s.apu.InvFor c → stepWith c s = .next t → t.apu.InvFor c)

/-- With the power off nothing is heard (R67, R318, R341; D32): every operation but `WR NR52` and `RESET` keeps the power
off and the block cleared, every channel output is 0, and a latch stores (0, 0). -/
def Obligations.PoweredOffBlockIsSilent : Prop :=
  ∀ (i : Instr) (s t : State), s.apu.Inv → s.apu.masterPower = false →
    (∀ v, i ≠ .wrNr52 v) → (∀ b, i ≠ .reset b) → exec i s = .next t →
    t.apu.masterPower = false ∧ t.apu.Cleared ∧ (∀ n, channelOutput Config.params n t.apu = 0) ∧
    ((t.apu.left = s.apu.left ∧ t.apu.right = s.apu.right) ∨ (t.apu.left = 0 ∧ t.apu.right = 0))

/-- Which operations may change what (R22, R24, R59, R61, R62, R90, R91, R260): `masterPower` only `WR NR52` and `RESET`;
wave RAM only `WR WAVE` and `RESET`; the frame sequencer, the sample timer and the latched pair only `STEP` and `RESET`;
a `RD` or `SAMPLE` nothing in the block. -/
def Obligations.OnlyTheseOperationsChange : Prop :=
  ∀ (i : Instr) (s t : State), exec i s = .next t →
    (t.apu.masterPower ≠ s.apu.masterPower → (∃ v, i = .wrNr52 v) ∨ (∃ b, i = .reset b)) ∧
    (t.apu.waveRam ≠ s.apu.waveRam → (∃ k v, i = .wrWave k v) ∨ (∃ b, i = .reset b)) ∧
    (t.apu.fs ≠ s.apu.fs ∨ t.apu.sampleTimer ≠ s.apu.sampleTimer ∨ t.apu.left ≠ s.apu.left ∨
      t.apu.right ≠ s.apu.right → i = .step ∨ (∃ b, i = .reset b)) ∧
    (kindOf (encode i) = 2#4 ∨ kindOf (encode i) = 3#4 → t.apu = s.apu)

/-- An `enabled` flag is set only by a trigger, a `WR` to that channel's NRx4 with bit 7 = 1, accepted and with the DAC on,
or by `RESET 0` (R47, R420). -/
def Obligations.EnabledIsSetOnlyByTrigger : Prop :=
  ∀ (n : ChanId) (i : Instr) (s t : State), exec i s = .next t → s.apu.enabled n = false → t.apu.enabled n = true →
    (∃ v, i = Instr.ofWrite n.nrx4 v ∧ v.getLsbD 7 = true ∧ s.apu.masterPower = true ∧ s.apu.dacEnabled n = true) ∨
    i = .reset false

/-- The ports (R338, R339, R344, R8; D4, D16, D38; log entries 11 and 14): one rising edge is a `RESET` alone, or the
asserted `WR` and then a `STEP`; the outputs are combinational from the state before the edge, `rdata` only while `rd` is
1. A cycle under the extended strap, and one with `wr` and `rd` both 1, is refused and has no outputs; that
`modelExtended` is the name where both hold, that the outputs are refused whole, and that such a cycle is refused with
`rst` = 1 too, are the model's choice (log entry 11). -/
def Obligations.PortEdgeRunsOperations : Prop :=
  (∀ (p : PortIn) (s : State), p.model = .base → (p.wr && p.rd) = false →
    (p.rst = true → portEdge p s = exec (.reset p.hasBios) s) ∧
    (p.rst = false → p.wr = false → portEdge p s = exec .step s) ∧
    (p.rst = false → p.wr = true → ∃ t : State, exec (writeInstr p.addr p.wdata) s = .next t ∧
      portEdge p s = exec .step t) ∧
    (p.rd = true → ∃ b, portOut p s = .ok ⟨some b, s.apu.left, s.apu.right⟩ ∧
      exec (readInstr p.addr) s = .next { s with answers := .byte b :: s.answers }) ∧
    (p.rd = false → portOut p s = .ok ⟨none, s.apu.left, s.apu.right⟩)) ∧
  (∀ (p : PortIn) (s : State), p.model = .extended →
    portEdge p s = .refused .modelExtended ∧ portOut p s = .error .modelExtended) ∧
  (∀ (p : PortIn) (s : State), p.model = .base → (p.wr && p.rd) = true →
    portEdge p s = .refused .portOverlap ∧ portOut p s = .error .portOverlap)

end
end

