-- ==== Sys2Proof/Laws/State.lean ====
section
/-! SUPPORT. One lemma per field per update of the block, true by `rfl`, so that no later proof unfolds a record
update; and the same for the views that go through one part. -/
namespace Sys2Proof.Machine

@[simp] theorem Apu.setRegs_regs (a : Apu) (x : RegFile) : (a.setRegs x).regs = x := rfl
@[simp] theorem Apu.setRegs_masterPower (a : Apu) (x : RegFile) : (a.setRegs x).masterPower = a.masterPower := rfl
@[simp] theorem Apu.setRegs_waveRam (a : Apu) (x : RegFile) : (a.setRegs x).waveRam = a.waveRam := rfl
@[simp] theorem Apu.setRegs_ch1 (a : Apu) (x : RegFile) : (a.setRegs x).ch1 = a.ch1 := rfl
@[simp] theorem Apu.setRegs_sweep (a : Apu) (x : RegFile) : (a.setRegs x).sweep = a.sweep := rfl
@[simp] theorem Apu.setRegs_ch2 (a : Apu) (x : RegFile) : (a.setRegs x).ch2 = a.ch2 := rfl
@[simp] theorem Apu.setRegs_ch3 (a : Apu) (x : RegFile) : (a.setRegs x).ch3 = a.ch3 := rfl
@[simp] theorem Apu.setRegs_ch4 (a : Apu) (x : RegFile) : (a.setRegs x).ch4 = a.ch4 := rfl
@[simp] theorem Apu.setRegs_fs (a : Apu) (x : RegFile) : (a.setRegs x).fs = a.fs := rfl
@[simp] theorem Apu.setRegs_sampleTimer (a : Apu) (x : RegFile) : (a.setRegs x).sampleTimer = a.sampleTimer := rfl
@[simp] theorem Apu.setRegs_left (a : Apu) (x : RegFile) : (a.setRegs x).left = a.left := rfl
@[simp] theorem Apu.setRegs_right (a : Apu) (x : RegFile) : (a.setRegs x).right = a.right := rfl

@[simp] theorem Apu.setPower_regs (a : Apu) (x : Bool) : (a.setPower x).regs = a.regs := rfl
@[simp] theorem Apu.setPower_masterPower (a : Apu) (x : Bool) : (a.setPower x).masterPower = x := rfl
@[simp] theorem Apu.setPower_waveRam (a : Apu) (x : Bool) : (a.setPower x).waveRam = a.waveRam := rfl
@[simp] theorem Apu.setPower_ch1 (a : Apu) (x : Bool) : (a.setPower x).ch1 = a.ch1 := rfl
@[simp] theorem Apu.setPower_sweep (a : Apu) (x : Bool) : (a.setPower x).sweep = a.sweep := rfl
@[simp] theorem Apu.setPower_ch2 (a : Apu) (x : Bool) : (a.setPower x).ch2 = a.ch2 := rfl
@[simp] theorem Apu.setPower_ch3 (a : Apu) (x : Bool) : (a.setPower x).ch3 = a.ch3 := rfl
@[simp] theorem Apu.setPower_ch4 (a : Apu) (x : Bool) : (a.setPower x).ch4 = a.ch4 := rfl
@[simp] theorem Apu.setPower_fs (a : Apu) (x : Bool) : (a.setPower x).fs = a.fs := rfl
@[simp] theorem Apu.setPower_sampleTimer (a : Apu) (x : Bool) : (a.setPower x).sampleTimer = a.sampleTimer := rfl
@[simp] theorem Apu.setPower_left (a : Apu) (x : Bool) : (a.setPower x).left = a.left := rfl
@[simp] theorem Apu.setPower_right (a : Apu) (x : Bool) : (a.setPower x).right = a.right := rfl

@[simp] theorem Apu.setWaveRam_regs (a : Apu) (x : Memory) : (a.setWaveRam x).regs = a.regs := rfl
@[simp] theorem Apu.setWaveRam_masterPower (a : Apu) (x : Memory) : (a.setWaveRam x).masterPower = a.masterPower := rfl
@[simp] theorem Apu.setWaveRam_waveRam (a : Apu) (x : Memory) : (a.setWaveRam x).waveRam = x := rfl
@[simp] theorem Apu.setWaveRam_ch1 (a : Apu) (x : Memory) : (a.setWaveRam x).ch1 = a.ch1 := rfl
@[simp] theorem Apu.setWaveRam_sweep (a : Apu) (x : Memory) : (a.setWaveRam x).sweep = a.sweep := rfl
@[simp] theorem Apu.setWaveRam_ch2 (a : Apu) (x : Memory) : (a.setWaveRam x).ch2 = a.ch2 := rfl
@[simp] theorem Apu.setWaveRam_ch3 (a : Apu) (x : Memory) : (a.setWaveRam x).ch3 = a.ch3 := rfl
@[simp] theorem Apu.setWaveRam_ch4 (a : Apu) (x : Memory) : (a.setWaveRam x).ch4 = a.ch4 := rfl
@[simp] theorem Apu.setWaveRam_fs (a : Apu) (x : Memory) : (a.setWaveRam x).fs = a.fs := rfl
@[simp] theorem Apu.setWaveRam_sampleTimer (a : Apu) (x : Memory) : (a.setWaveRam x).sampleTimer = a.sampleTimer := rfl
@[simp] theorem Apu.setWaveRam_left (a : Apu) (x : Memory) : (a.setWaveRam x).left = a.left := rfl
@[simp] theorem Apu.setWaveRam_right (a : Apu) (x : Memory) : (a.setWaveRam x).right = a.right := rfl

@[simp] theorem Apu.setCh1_regs (a : Apu) (x : PulseCh) : (a.setCh1 x).regs = a.regs := rfl
@[simp] theorem Apu.setCh1_masterPower (a : Apu) (x : PulseCh) : (a.setCh1 x).masterPower = a.masterPower := rfl
@[simp] theorem Apu.setCh1_waveRam (a : Apu) (x : PulseCh) : (a.setCh1 x).waveRam = a.waveRam := rfl
@[simp] theorem Apu.setCh1_ch1 (a : Apu) (x : PulseCh) : (a.setCh1 x).ch1 = x := rfl
@[simp] theorem Apu.setCh1_sweep (a : Apu) (x : PulseCh) : (a.setCh1 x).sweep = a.sweep := rfl
@[simp] theorem Apu.setCh1_ch2 (a : Apu) (x : PulseCh) : (a.setCh1 x).ch2 = a.ch2 := rfl
@[simp] theorem Apu.setCh1_ch3 (a : Apu) (x : PulseCh) : (a.setCh1 x).ch3 = a.ch3 := rfl
@[simp] theorem Apu.setCh1_ch4 (a : Apu) (x : PulseCh) : (a.setCh1 x).ch4 = a.ch4 := rfl
@[simp] theorem Apu.setCh1_fs (a : Apu) (x : PulseCh) : (a.setCh1 x).fs = a.fs := rfl
@[simp] theorem Apu.setCh1_sampleTimer (a : Apu) (x : PulseCh) : (a.setCh1 x).sampleTimer = a.sampleTimer := rfl
@[simp] theorem Apu.setCh1_left (a : Apu) (x : PulseCh) : (a.setCh1 x).left = a.left := rfl
@[simp] theorem Apu.setCh1_right (a : Apu) (x : PulseCh) : (a.setCh1 x).right = a.right := rfl

@[simp] theorem Apu.setSweep_regs (a : Apu) (x : SweepUnit) : (a.setSweep x).regs = a.regs := rfl
@[simp] theorem Apu.setSweep_masterPower (a : Apu) (x : SweepUnit) : (a.setSweep x).masterPower = a.masterPower := rfl
@[simp] theorem Apu.setSweep_waveRam (a : Apu) (x : SweepUnit) : (a.setSweep x).waveRam = a.waveRam := rfl
@[simp] theorem Apu.setSweep_ch1 (a : Apu) (x : SweepUnit) : (a.setSweep x).ch1 = a.ch1 := rfl
@[simp] theorem Apu.setSweep_sweep (a : Apu) (x : SweepUnit) : (a.setSweep x).sweep = x := rfl
@[simp] theorem Apu.setSweep_ch2 (a : Apu) (x : SweepUnit) : (a.setSweep x).ch2 = a.ch2 := rfl
@[simp] theorem Apu.setSweep_ch3 (a : Apu) (x : SweepUnit) : (a.setSweep x).ch3 = a.ch3 := rfl
@[simp] theorem Apu.setSweep_ch4 (a : Apu) (x : SweepUnit) : (a.setSweep x).ch4 = a.ch4 := rfl
@[simp] theorem Apu.setSweep_fs (a : Apu) (x : SweepUnit) : (a.setSweep x).fs = a.fs := rfl
@[simp] theorem Apu.setSweep_sampleTimer (a : Apu) (x : SweepUnit) : (a.setSweep x).sampleTimer = a.sampleTimer := rfl
@[simp] theorem Apu.setSweep_left (a : Apu) (x : SweepUnit) : (a.setSweep x).left = a.left := rfl
@[simp] theorem Apu.setSweep_right (a : Apu) (x : SweepUnit) : (a.setSweep x).right = a.right := rfl

@[simp] theorem Apu.setCh2_regs (a : Apu) (x : PulseCh) : (a.setCh2 x).regs = a.regs := rfl
@[simp] theorem Apu.setCh2_masterPower (a : Apu) (x : PulseCh) : (a.setCh2 x).masterPower = a.masterPower := rfl
@[simp] theorem Apu.setCh2_waveRam (a : Apu) (x : PulseCh) : (a.setCh2 x).waveRam = a.waveRam := rfl
@[simp] theorem Apu.setCh2_ch1 (a : Apu) (x : PulseCh) : (a.setCh2 x).ch1 = a.ch1 := rfl
@[simp] theorem Apu.setCh2_sweep (a : Apu) (x : PulseCh) : (a.setCh2 x).sweep = a.sweep := rfl
@[simp] theorem Apu.setCh2_ch2 (a : Apu) (x : PulseCh) : (a.setCh2 x).ch2 = x := rfl
@[simp] theorem Apu.setCh2_ch3 (a : Apu) (x : PulseCh) : (a.setCh2 x).ch3 = a.ch3 := rfl
@[simp] theorem Apu.setCh2_ch4 (a : Apu) (x : PulseCh) : (a.setCh2 x).ch4 = a.ch4 := rfl
@[simp] theorem Apu.setCh2_fs (a : Apu) (x : PulseCh) : (a.setCh2 x).fs = a.fs := rfl
@[simp] theorem Apu.setCh2_sampleTimer (a : Apu) (x : PulseCh) : (a.setCh2 x).sampleTimer = a.sampleTimer := rfl
@[simp] theorem Apu.setCh2_left (a : Apu) (x : PulseCh) : (a.setCh2 x).left = a.left := rfl
@[simp] theorem Apu.setCh2_right (a : Apu) (x : PulseCh) : (a.setCh2 x).right = a.right := rfl

@[simp] theorem Apu.setCh3_regs (a : Apu) (x : WaveCh) : (a.setCh3 x).regs = a.regs := rfl
@[simp] theorem Apu.setCh3_masterPower (a : Apu) (x : WaveCh) : (a.setCh3 x).masterPower = a.masterPower := rfl
@[simp] theorem Apu.setCh3_waveRam (a : Apu) (x : WaveCh) : (a.setCh3 x).waveRam = a.waveRam := rfl
@[simp] theorem Apu.setCh3_ch1 (a : Apu) (x : WaveCh) : (a.setCh3 x).ch1 = a.ch1 := rfl
@[simp] theorem Apu.setCh3_sweep (a : Apu) (x : WaveCh) : (a.setCh3 x).sweep = a.sweep := rfl
@[simp] theorem Apu.setCh3_ch2 (a : Apu) (x : WaveCh) : (a.setCh3 x).ch2 = a.ch2 := rfl
@[simp] theorem Apu.setCh3_ch3 (a : Apu) (x : WaveCh) : (a.setCh3 x).ch3 = x := rfl
@[simp] theorem Apu.setCh3_ch4 (a : Apu) (x : WaveCh) : (a.setCh3 x).ch4 = a.ch4 := rfl
@[simp] theorem Apu.setCh3_fs (a : Apu) (x : WaveCh) : (a.setCh3 x).fs = a.fs := rfl
@[simp] theorem Apu.setCh3_sampleTimer (a : Apu) (x : WaveCh) : (a.setCh3 x).sampleTimer = a.sampleTimer := rfl
@[simp] theorem Apu.setCh3_left (a : Apu) (x : WaveCh) : (a.setCh3 x).left = a.left := rfl
@[simp] theorem Apu.setCh3_right (a : Apu) (x : WaveCh) : (a.setCh3 x).right = a.right := rfl

@[simp] theorem Apu.setCh4_regs (a : Apu) (x : NoiseCh) : (a.setCh4 x).regs = a.regs := rfl
@[simp] theorem Apu.setCh4_masterPower (a : Apu) (x : NoiseCh) : (a.setCh4 x).masterPower = a.masterPower := rfl
@[simp] theorem Apu.setCh4_waveRam (a : Apu) (x : NoiseCh) : (a.setCh4 x).waveRam = a.waveRam := rfl
@[simp] theorem Apu.setCh4_ch1 (a : Apu) (x : NoiseCh) : (a.setCh4 x).ch1 = a.ch1 := rfl
@[simp] theorem Apu.setCh4_sweep (a : Apu) (x : NoiseCh) : (a.setCh4 x).sweep = a.sweep := rfl
@[simp] theorem Apu.setCh4_ch2 (a : Apu) (x : NoiseCh) : (a.setCh4 x).ch2 = a.ch2 := rfl
@[simp] theorem Apu.setCh4_ch3 (a : Apu) (x : NoiseCh) : (a.setCh4 x).ch3 = a.ch3 := rfl
@[simp] theorem Apu.setCh4_ch4 (a : Apu) (x : NoiseCh) : (a.setCh4 x).ch4 = x := rfl
@[simp] theorem Apu.setCh4_fs (a : Apu) (x : NoiseCh) : (a.setCh4 x).fs = a.fs := rfl
@[simp] theorem Apu.setCh4_sampleTimer (a : Apu) (x : NoiseCh) : (a.setCh4 x).sampleTimer = a.sampleTimer := rfl
@[simp] theorem Apu.setCh4_left (a : Apu) (x : NoiseCh) : (a.setCh4 x).left = a.left := rfl
@[simp] theorem Apu.setCh4_right (a : Apu) (x : NoiseCh) : (a.setCh4 x).right = a.right := rfl

@[simp] theorem Apu.setFs_regs (a : Apu) (x : FrameSeq) : (a.setFs x).regs = a.regs := rfl
@[simp] theorem Apu.setFs_masterPower (a : Apu) (x : FrameSeq) : (a.setFs x).masterPower = a.masterPower := rfl
@[simp] theorem Apu.setFs_waveRam (a : Apu) (x : FrameSeq) : (a.setFs x).waveRam = a.waveRam := rfl
@[simp] theorem Apu.setFs_ch1 (a : Apu) (x : FrameSeq) : (a.setFs x).ch1 = a.ch1 := rfl
@[simp] theorem Apu.setFs_sweep (a : Apu) (x : FrameSeq) : (a.setFs x).sweep = a.sweep := rfl
@[simp] theorem Apu.setFs_ch2 (a : Apu) (x : FrameSeq) : (a.setFs x).ch2 = a.ch2 := rfl
@[simp] theorem Apu.setFs_ch3 (a : Apu) (x : FrameSeq) : (a.setFs x).ch3 = a.ch3 := rfl
@[simp] theorem Apu.setFs_ch4 (a : Apu) (x : FrameSeq) : (a.setFs x).ch4 = a.ch4 := rfl
@[simp] theorem Apu.setFs_fs (a : Apu) (x : FrameSeq) : (a.setFs x).fs = x := rfl
@[simp] theorem Apu.setFs_sampleTimer (a : Apu) (x : FrameSeq) : (a.setFs x).sampleTimer = a.sampleTimer := rfl
@[simp] theorem Apu.setFs_left (a : Apu) (x : FrameSeq) : (a.setFs x).left = a.left := rfl
@[simp] theorem Apu.setFs_right (a : Apu) (x : FrameSeq) : (a.setFs x).right = a.right := rfl

@[simp] theorem Apu.setSampleTimer_regs (a : Apu) (x : BitVec 22) : (a.setSampleTimer x).regs = a.regs := rfl
@[simp] theorem Apu.setSampleTimer_masterPower (a : Apu) (x : BitVec 22) : (a.setSampleTimer x).masterPower = a.masterPower := rfl
@[simp] theorem Apu.setSampleTimer_waveRam (a : Apu) (x : BitVec 22) : (a.setSampleTimer x).waveRam = a.waveRam := rfl
@[simp] theorem Apu.setSampleTimer_ch1 (a : Apu) (x : BitVec 22) : (a.setSampleTimer x).ch1 = a.ch1 := rfl
@[simp] theorem Apu.setSampleTimer_sweep (a : Apu) (x : BitVec 22) : (a.setSampleTimer x).sweep = a.sweep := rfl
@[simp] theorem Apu.setSampleTimer_ch2 (a : Apu) (x : BitVec 22) : (a.setSampleTimer x).ch2 = a.ch2 := rfl
@[simp] theorem Apu.setSampleTimer_ch3 (a : Apu) (x : BitVec 22) : (a.setSampleTimer x).ch3 = a.ch3 := rfl
@[simp] theorem Apu.setSampleTimer_ch4 (a : Apu) (x : BitVec 22) : (a.setSampleTimer x).ch4 = a.ch4 := rfl
@[simp] theorem Apu.setSampleTimer_fs (a : Apu) (x : BitVec 22) : (a.setSampleTimer x).fs = a.fs := rfl
@[simp] theorem Apu.setSampleTimer_sampleTimer (a : Apu) (x : BitVec 22) : (a.setSampleTimer x).sampleTimer = x := rfl
@[simp] theorem Apu.setSampleTimer_left (a : Apu) (x : BitVec 22) : (a.setSampleTimer x).left = a.left := rfl
@[simp] theorem Apu.setSampleTimer_right (a : Apu) (x : BitVec 22) : (a.setSampleTimer x).right = a.right := rfl

@[simp] theorem Apu.setLatch_regs (a : Apu) (l r : Byte) : (a.setLatch l r).regs = a.regs := rfl
@[simp] theorem Apu.setLatch_masterPower (a : Apu) (l r : Byte) : (a.setLatch l r).masterPower = a.masterPower := rfl
@[simp] theorem Apu.setLatch_waveRam (a : Apu) (l r : Byte) : (a.setLatch l r).waveRam = a.waveRam := rfl
@[simp] theorem Apu.setLatch_ch1 (a : Apu) (l r : Byte) : (a.setLatch l r).ch1 = a.ch1 := rfl
@[simp] theorem Apu.setLatch_sweep (a : Apu) (l r : Byte) : (a.setLatch l r).sweep = a.sweep := rfl
@[simp] theorem Apu.setLatch_ch2 (a : Apu) (l r : Byte) : (a.setLatch l r).ch2 = a.ch2 := rfl
@[simp] theorem Apu.setLatch_ch3 (a : Apu) (l r : Byte) : (a.setLatch l r).ch3 = a.ch3 := rfl
@[simp] theorem Apu.setLatch_ch4 (a : Apu) (l r : Byte) : (a.setLatch l r).ch4 = a.ch4 := rfl
@[simp] theorem Apu.setLatch_fs (a : Apu) (l r : Byte) : (a.setLatch l r).fs = a.fs := rfl
@[simp] theorem Apu.setLatch_sampleTimer (a : Apu) (l r : Byte) : (a.setLatch l r).sampleTimer = a.sampleTimer := rfl
@[simp] theorem Apu.setLatch_left (a : Apu) (l r : Byte) : (a.setLatch l r).left = l := rfl
@[simp] theorem Apu.setLatch_right (a : Apu) (l r : Byte) : (a.setLatch l r).right = r := rfl

/-! ### Stored bytes -/

@[simp] theorem Apu.setPower_reg (a : Apu) (x : Bool) (r : CtrlReg) : (a.setPower x).reg r = a.reg r := rfl
@[simp] theorem Apu.setWaveRam_reg (a : Apu) (x : Memory) (r : CtrlReg) : (a.setWaveRam x).reg r = a.reg r := rfl
@[simp] theorem Apu.setCh1_reg (a : Apu) (x : PulseCh) (r : CtrlReg) : (a.setCh1 x).reg r = a.reg r := rfl
@[simp] theorem Apu.setSweep_reg (a : Apu) (x : SweepUnit) (r : CtrlReg) : (a.setSweep x).reg r = a.reg r := rfl
@[simp] theorem Apu.setCh2_reg (a : Apu) (x : PulseCh) (r : CtrlReg) : (a.setCh2 x).reg r = a.reg r := rfl
@[simp] theorem Apu.setCh3_reg (a : Apu) (x : WaveCh) (r : CtrlReg) : (a.setCh3 x).reg r = a.reg r := rfl
@[simp] theorem Apu.setCh4_reg (a : Apu) (x : NoiseCh) (r : CtrlReg) : (a.setCh4 x).reg r = a.reg r := rfl
@[simp] theorem Apu.setFs_reg (a : Apu) (x : FrameSeq) (r : CtrlReg) : (a.setFs x).reg r = a.reg r := rfl
@[simp] theorem Apu.setSampleTimer_reg (a : Apu) (x : BitVec 22) (r : CtrlReg) : (a.setSampleTimer x).reg r = a.reg r := rfl
@[simp] theorem Apu.setLatch_reg (a : Apu) (l r : Byte) (x : CtrlReg) : (a.setLatch l r).reg x = a.reg x := rfl
@[simp] theorem Apu.store_masterPower (a : Apu) (x : CtrlReg) (v : Byte) : (a.store x v).masterPower = a.masterPower := rfl
@[simp] theorem Apu.store_waveRam (a : Apu) (x : CtrlReg) (v : Byte) : (a.store x v).waveRam = a.waveRam := rfl
@[simp] theorem Apu.store_ch1 (a : Apu) (x : CtrlReg) (v : Byte) : (a.store x v).ch1 = a.ch1 := rfl
@[simp] theorem Apu.store_sweep (a : Apu) (x : CtrlReg) (v : Byte) : (a.store x v).sweep = a.sweep := rfl
@[simp] theorem Apu.store_ch2 (a : Apu) (x : CtrlReg) (v : Byte) : (a.store x v).ch2 = a.ch2 := rfl
@[simp] theorem Apu.store_ch3 (a : Apu) (x : CtrlReg) (v : Byte) : (a.store x v).ch3 = a.ch3 := rfl
@[simp] theorem Apu.store_ch4 (a : Apu) (x : CtrlReg) (v : Byte) : (a.store x v).ch4 = a.ch4 := rfl
@[simp] theorem Apu.store_fs (a : Apu) (x : CtrlReg) (v : Byte) : (a.store x v).fs = a.fs := rfl
@[simp] theorem Apu.store_sampleTimer (a : Apu) (x : CtrlReg) (v : Byte) : (a.store x v).sampleTimer = a.sampleTimer := rfl
@[simp] theorem Apu.store_left (a : Apu) (x : CtrlReg) (v : Byte) : (a.store x v).left = a.left := rfl
@[simp] theorem Apu.store_right (a : Apu) (x : CtrlReg) (v : Byte) : (a.store x v).right = a.right := rfl
@[simp] theorem Apu.store_regs (a : Apu) (x : CtrlReg) (v : Byte) : (a.store x v).regs = a.regs.set x v := rfl

/-! ### The register file -/

@[simp] theorem RegFile.get_set_self (f : RegFile) (x : CtrlReg) (v : Byte) : (f.set x v).get x = v := by
  cases x <;> rfl

theorem RegFile.get_set_ne (f : RegFile) {x y : CtrlReg} (v : Byte) (h : y ≠ x) : (f.set x v).get y = f.get y := by
  cases x <;> cases y <;> first | rfl | exact absurd rfl h

theorem RegFile.get_set (f : RegFile) (x y : CtrlReg) (v : Byte) :
    (f.set x v).get y = if y = x then v else f.get y := by
  split
  · next h => subst h; exact f.get_set_self y v
  · next h => exact f.get_set_ne v h

@[simp] theorem Apu.store_reg_self (a : Apu) (x : CtrlReg) (v : Byte) : (a.store x v).reg x = v :=
  a.regs.get_set_self x v

theorem Apu.store_reg (a : Apu) (x y : CtrlReg) (v : Byte) :
    (a.store x v).reg y = if y = x then v else a.reg y := a.regs.get_set x y v

/-- Two register files that agree on every register are equal. -/
theorem RegFile.ext_get {f g : RegFile} (h : ∀ x, f.get x = g.get x) : f = g := by
  cases f; cases g
  simp only [RegFile.mk.injEq]
  exact ⟨h .nr10, h .nr11, h .nr12, h .nr13, h .nr14, h .nr21, h .nr22, h .nr23, h .nr24, h .nr30,
    h .nr31, h .nr32, h .nr33, h .nr34, h .nr41, h .nr42, h .nr43, h .nr44, h .nr50, h .nr51⟩

@[simp] theorem RegFile.zero_get (x : CtrlReg) : RegFile.zero.get x = 0 := by cases x <;> rfl

/-! ### Channels by name -/

@[simp] theorem Apu.setRegs_pulse (a : Apu) (x : RegFile) (n : PulseId) : (a.setRegs x).pulse n = a.pulse n := by cases n <;> rfl
@[simp] theorem Apu.setPower_pulse (a : Apu) (x : Bool) (n : PulseId) : (a.setPower x).pulse n = a.pulse n := by cases n <;> rfl
@[simp] theorem Apu.setWaveRam_pulse (a : Apu) (x : Memory) (n : PulseId) : (a.setWaveRam x).pulse n = a.pulse n := by cases n <;> rfl
@[simp] theorem Apu.setSweep_pulse (a : Apu) (x : SweepUnit) (n : PulseId) : (a.setSweep x).pulse n = a.pulse n := by cases n <;> rfl
@[simp] theorem Apu.setCh3_pulse (a : Apu) (x : WaveCh) (n : PulseId) : (a.setCh3 x).pulse n = a.pulse n := by cases n <;> rfl
@[simp] theorem Apu.setCh4_pulse (a : Apu) (x : NoiseCh) (n : PulseId) : (a.setCh4 x).pulse n = a.pulse n := by cases n <;> rfl
@[simp] theorem Apu.setFs_pulse (a : Apu) (x : FrameSeq) (n : PulseId) : (a.setFs x).pulse n = a.pulse n := by cases n <;> rfl
@[simp] theorem Apu.setSampleTimer_pulse (a : Apu) (x : BitVec 22) (n : PulseId) : (a.setSampleTimer x).pulse n = a.pulse n := by cases n <;> rfl
@[simp] theorem Apu.setLatch_pulse (a : Apu) (l r : Byte) (n : PulseId) : (a.setLatch l r).pulse n = a.pulse n := by
  cases n <;> rfl
@[simp] theorem Apu.store_pulse (a : Apu) (x : CtrlReg) (v : Byte) (n : PulseId) : (a.store x v).pulse n = a.pulse n := by
  cases n <;> rfl
@[simp] theorem Apu.setPulse_pulse_self (a : Apu) (n : PulseId) (p : PulseCh) : (a.setPulse n p).pulse n = p := by
  cases n <;> rfl
theorem Apu.setPulse_pulse (a : Apu) (n m : PulseId) (p : PulseCh) :
    (a.setPulse n p).pulse m = if m = n then p else a.pulse m := by cases n <;> cases m <;> rfl
@[simp] theorem Apu.setPulse_reg (a : Apu) (n : PulseId) (p : PulseCh) (x : CtrlReg) :
    (a.setPulse n p).reg x = a.reg x := by cases n <;> rfl
@[simp] theorem Apu.setPulse_regs (a : Apu) (n : PulseId) (p : PulseCh) : (a.setPulse n p).regs = a.regs := by cases n <;> rfl
@[simp] theorem Apu.setPulse_masterPower (a : Apu) (n : PulseId) (p : PulseCh) : (a.setPulse n p).masterPower = a.masterPower := by cases n <;> rfl
@[simp] theorem Apu.setPulse_waveRam (a : Apu) (n : PulseId) (p : PulseCh) : (a.setPulse n p).waveRam = a.waveRam := by cases n <;> rfl
@[simp] theorem Apu.setPulse_sweep (a : Apu) (n : PulseId) (p : PulseCh) : (a.setPulse n p).sweep = a.sweep := by cases n <;> rfl
@[simp] theorem Apu.setPulse_ch3 (a : Apu) (n : PulseId) (p : PulseCh) : (a.setPulse n p).ch3 = a.ch3 := by cases n <;> rfl
@[simp] theorem Apu.setPulse_ch4 (a : Apu) (n : PulseId) (p : PulseCh) : (a.setPulse n p).ch4 = a.ch4 := by cases n <;> rfl
@[simp] theorem Apu.setPulse_fs (a : Apu) (n : PulseId) (p : PulseCh) : (a.setPulse n p).fs = a.fs := by cases n <;> rfl
@[simp] theorem Apu.setPulse_sampleTimer (a : Apu) (n : PulseId) (p : PulseCh) : (a.setPulse n p).sampleTimer = a.sampleTimer := by cases n <;> rfl
@[simp] theorem Apu.setPulse_left (a : Apu) (n : PulseId) (p : PulseCh) : (a.setPulse n p).left = a.left := by cases n <;> rfl
@[simp] theorem Apu.setPulse_right (a : Apu) (n : PulseId) (p : PulseCh) : (a.setPulse n p).right = a.right := by cases n <;> rfl

/-! ### Disabling a channel -/

theorem Apu.disable_enabled (a : Apu) (n m : ChanId) : (a.disable n).enabled m = (a.enabled m && m != n) := by
  cases n <;> cases m <;> simp [Apu.disable, Apu.enabled]
@[simp] theorem Apu.disable_reg (a : Apu) (n : ChanId) (x : CtrlReg) : (a.disable n).reg x = a.reg x := by
  cases n <;> rfl
@[simp] theorem Apu.disable_regs (a : Apu) (n : ChanId) : (a.disable n).regs = a.regs := by cases n <;> rfl
@[simp] theorem Apu.disable_masterPower (a : Apu) (n : ChanId) : (a.disable n).masterPower = a.masterPower := by cases n <;> rfl
@[simp] theorem Apu.disable_waveRam (a : Apu) (n : ChanId) : (a.disable n).waveRam = a.waveRam := by cases n <;> rfl
@[simp] theorem Apu.disable_sweep (a : Apu) (n : ChanId) : (a.disable n).sweep = a.sweep := by cases n <;> rfl
@[simp] theorem Apu.disable_fs (a : Apu) (n : ChanId) : (a.disable n).fs = a.fs := by cases n <;> rfl
@[simp] theorem Apu.disable_sampleTimer (a : Apu) (n : ChanId) : (a.disable n).sampleTimer = a.sampleTimer := by cases n <;> rfl
@[simp] theorem Apu.disable_left (a : Apu) (n : ChanId) : (a.disable n).left = a.left := by cases n <;> rfl
@[simp] theorem Apu.disable_right (a : Apu) (n : ChanId) : (a.disable n).right = a.right := by cases n <;> rfl

/-! ### Views depend on the stored bytes alone -/

theorem Apu.dacEnabled_congr {a b : Apu} (h : ∀ x, a.reg x = b.reg x) (n : ChanId) :
    a.dacEnabled n = b.dacEnabled n := by cases n <;> simp [Apu.dacEnabled, h]
theorem Apu.lengthEnable_congr {a b : Apu} (h : ∀ x, a.reg x = b.reg x) (n : ChanId) :
    a.lengthEnable n = b.lengthEnable n := by simp [Apu.lengthEnable, h]
theorem Apu.pulseFrequency_congr {a b : Apu} (h : ∀ x, a.reg x = b.reg x) (n : PulseId) :
    a.pulseFrequency n = b.pulseFrequency n := by simp [Apu.pulseFrequency, h]

end Sys2Proof.Machine
end

