-- ==== Sys2Proof/Laws/Cycle.lean ====
section
/-! SUPPORT. What each part of a `STEP` leaves unchanged (47_top_level.md R340), one lemma per part and field, and the
fields of a whole `STEP` in terms of the one part that writes them. -/
namespace Sys2Proof.Machine

@[simp] theorem clock256Hz_ch1_regs (a : Apu) : (clock256Hz .ch1 a).regs = a.regs := rfl
@[simp] theorem clock256Hz_ch1_masterPower (a : Apu) : (clock256Hz .ch1 a).masterPower = a.masterPower := rfl
@[simp] theorem clock256Hz_ch1_waveRam (a : Apu) : (clock256Hz .ch1 a).waveRam = a.waveRam := rfl
@[simp] theorem clock256Hz_ch1_sweep (a : Apu) : (clock256Hz .ch1 a).sweep = a.sweep := rfl
@[simp] theorem clock256Hz_ch1_ch2 (a : Apu) : (clock256Hz .ch1 a).ch2 = a.ch2 := rfl
@[simp] theorem clock256Hz_ch1_ch3 (a : Apu) : (clock256Hz .ch1 a).ch3 = a.ch3 := rfl
@[simp] theorem clock256Hz_ch1_ch4 (a : Apu) : (clock256Hz .ch1 a).ch4 = a.ch4 := rfl
@[simp] theorem clock256Hz_ch1_fs (a : Apu) : (clock256Hz .ch1 a).fs = a.fs := rfl
@[simp] theorem clock256Hz_ch1_sampleTimer (a : Apu) : (clock256Hz .ch1 a).sampleTimer = a.sampleTimer := rfl
@[simp] theorem clock256Hz_ch1_left (a : Apu) : (clock256Hz .ch1 a).left = a.left := rfl
@[simp] theorem clock256Hz_ch1_right (a : Apu) : (clock256Hz .ch1 a).right = a.right := rfl

@[simp] theorem clock256Hz_ch2_regs (a : Apu) : (clock256Hz .ch2 a).regs = a.regs := rfl
@[simp] theorem clock256Hz_ch2_masterPower (a : Apu) : (clock256Hz .ch2 a).masterPower = a.masterPower := rfl
@[simp] theorem clock256Hz_ch2_waveRam (a : Apu) : (clock256Hz .ch2 a).waveRam = a.waveRam := rfl
@[simp] theorem clock256Hz_ch2_ch1 (a : Apu) : (clock256Hz .ch2 a).ch1 = a.ch1 := rfl
@[simp] theorem clock256Hz_ch2_sweep (a : Apu) : (clock256Hz .ch2 a).sweep = a.sweep := rfl
@[simp] theorem clock256Hz_ch2_ch3 (a : Apu) : (clock256Hz .ch2 a).ch3 = a.ch3 := rfl
@[simp] theorem clock256Hz_ch2_ch4 (a : Apu) : (clock256Hz .ch2 a).ch4 = a.ch4 := rfl
@[simp] theorem clock256Hz_ch2_fs (a : Apu) : (clock256Hz .ch2 a).fs = a.fs := rfl
@[simp] theorem clock256Hz_ch2_sampleTimer (a : Apu) : (clock256Hz .ch2 a).sampleTimer = a.sampleTimer := rfl
@[simp] theorem clock256Hz_ch2_left (a : Apu) : (clock256Hz .ch2 a).left = a.left := rfl
@[simp] theorem clock256Hz_ch2_right (a : Apu) : (clock256Hz .ch2 a).right = a.right := rfl

@[simp] theorem clock256Hz_ch3_regs (a : Apu) : (clock256Hz .ch3 a).regs = a.regs := rfl
@[simp] theorem clock256Hz_ch3_masterPower (a : Apu) : (clock256Hz .ch3 a).masterPower = a.masterPower := rfl
@[simp] theorem clock256Hz_ch3_waveRam (a : Apu) : (clock256Hz .ch3 a).waveRam = a.waveRam := rfl
@[simp] theorem clock256Hz_ch3_ch1 (a : Apu) : (clock256Hz .ch3 a).ch1 = a.ch1 := rfl
@[simp] theorem clock256Hz_ch3_sweep (a : Apu) : (clock256Hz .ch3 a).sweep = a.sweep := rfl
@[simp] theorem clock256Hz_ch3_ch2 (a : Apu) : (clock256Hz .ch3 a).ch2 = a.ch2 := rfl
@[simp] theorem clock256Hz_ch3_ch4 (a : Apu) : (clock256Hz .ch3 a).ch4 = a.ch4 := rfl
@[simp] theorem clock256Hz_ch3_fs (a : Apu) : (clock256Hz .ch3 a).fs = a.fs := rfl
@[simp] theorem clock256Hz_ch3_sampleTimer (a : Apu) : (clock256Hz .ch3 a).sampleTimer = a.sampleTimer := rfl
@[simp] theorem clock256Hz_ch3_left (a : Apu) : (clock256Hz .ch3 a).left = a.left := rfl
@[simp] theorem clock256Hz_ch3_right (a : Apu) : (clock256Hz .ch3 a).right = a.right := rfl

@[simp] theorem clock256Hz_ch4_regs (a : Apu) : (clock256Hz .ch4 a).regs = a.regs := rfl
@[simp] theorem clock256Hz_ch4_masterPower (a : Apu) : (clock256Hz .ch4 a).masterPower = a.masterPower := rfl
@[simp] theorem clock256Hz_ch4_waveRam (a : Apu) : (clock256Hz .ch4 a).waveRam = a.waveRam := rfl
@[simp] theorem clock256Hz_ch4_ch1 (a : Apu) : (clock256Hz .ch4 a).ch1 = a.ch1 := rfl
@[simp] theorem clock256Hz_ch4_sweep (a : Apu) : (clock256Hz .ch4 a).sweep = a.sweep := rfl
@[simp] theorem clock256Hz_ch4_ch2 (a : Apu) : (clock256Hz .ch4 a).ch2 = a.ch2 := rfl
@[simp] theorem clock256Hz_ch4_ch3 (a : Apu) : (clock256Hz .ch4 a).ch3 = a.ch3 := rfl
@[simp] theorem clock256Hz_ch4_fs (a : Apu) : (clock256Hz .ch4 a).fs = a.fs := rfl
@[simp] theorem clock256Hz_ch4_sampleTimer (a : Apu) : (clock256Hz .ch4 a).sampleTimer = a.sampleTimer := rfl
@[simp] theorem clock256Hz_ch4_left (a : Apu) : (clock256Hz .ch4 a).left = a.left := rfl
@[simp] theorem clock256Hz_ch4_right (a : Apu) : (clock256Hz .ch4 a).right = a.right := rfl

@[simp] theorem pulseClock64Hz_ch1_regs (a : Apu) : (pulseClock64Hz .ch1 a).regs = a.regs := rfl
@[simp] theorem pulseClock64Hz_ch1_masterPower (a : Apu) : (pulseClock64Hz .ch1 a).masterPower = a.masterPower := rfl
@[simp] theorem pulseClock64Hz_ch1_waveRam (a : Apu) : (pulseClock64Hz .ch1 a).waveRam = a.waveRam := rfl
@[simp] theorem pulseClock64Hz_ch1_sweep (a : Apu) : (pulseClock64Hz .ch1 a).sweep = a.sweep := rfl
@[simp] theorem pulseClock64Hz_ch1_ch2 (a : Apu) : (pulseClock64Hz .ch1 a).ch2 = a.ch2 := rfl
@[simp] theorem pulseClock64Hz_ch1_ch3 (a : Apu) : (pulseClock64Hz .ch1 a).ch3 = a.ch3 := rfl
@[simp] theorem pulseClock64Hz_ch1_ch4 (a : Apu) : (pulseClock64Hz .ch1 a).ch4 = a.ch4 := rfl
@[simp] theorem pulseClock64Hz_ch1_fs (a : Apu) : (pulseClock64Hz .ch1 a).fs = a.fs := rfl
@[simp] theorem pulseClock64Hz_ch1_sampleTimer (a : Apu) : (pulseClock64Hz .ch1 a).sampleTimer = a.sampleTimer := rfl
@[simp] theorem pulseClock64Hz_ch1_left (a : Apu) : (pulseClock64Hz .ch1 a).left = a.left := rfl
@[simp] theorem pulseClock64Hz_ch1_right (a : Apu) : (pulseClock64Hz .ch1 a).right = a.right := rfl

@[simp] theorem pulseClock64Hz_ch2_regs (a : Apu) : (pulseClock64Hz .ch2 a).regs = a.regs := rfl
@[simp] theorem pulseClock64Hz_ch2_masterPower (a : Apu) : (pulseClock64Hz .ch2 a).masterPower = a.masterPower := rfl
@[simp] theorem pulseClock64Hz_ch2_waveRam (a : Apu) : (pulseClock64Hz .ch2 a).waveRam = a.waveRam := rfl
@[simp] theorem pulseClock64Hz_ch2_ch1 (a : Apu) : (pulseClock64Hz .ch2 a).ch1 = a.ch1 := rfl
@[simp] theorem pulseClock64Hz_ch2_sweep (a : Apu) : (pulseClock64Hz .ch2 a).sweep = a.sweep := rfl
@[simp] theorem pulseClock64Hz_ch2_ch3 (a : Apu) : (pulseClock64Hz .ch2 a).ch3 = a.ch3 := rfl
@[simp] theorem pulseClock64Hz_ch2_ch4 (a : Apu) : (pulseClock64Hz .ch2 a).ch4 = a.ch4 := rfl
@[simp] theorem pulseClock64Hz_ch2_fs (a : Apu) : (pulseClock64Hz .ch2 a).fs = a.fs := rfl
@[simp] theorem pulseClock64Hz_ch2_sampleTimer (a : Apu) : (pulseClock64Hz .ch2 a).sampleTimer = a.sampleTimer := rfl
@[simp] theorem pulseClock64Hz_ch2_left (a : Apu) : (pulseClock64Hz .ch2 a).left = a.left := rfl
@[simp] theorem pulseClock64Hz_ch2_right (a : Apu) : (pulseClock64Hz .ch2 a).right = a.right := rfl

@[simp] theorem noiseClock64Hz_regs (a : Apu) : (noiseClock64Hz a).regs = a.regs := rfl
@[simp] theorem noiseClock64Hz_masterPower (a : Apu) : (noiseClock64Hz a).masterPower = a.masterPower := rfl
@[simp] theorem noiseClock64Hz_waveRam (a : Apu) : (noiseClock64Hz a).waveRam = a.waveRam := rfl
@[simp] theorem noiseClock64Hz_ch1 (a : Apu) : (noiseClock64Hz a).ch1 = a.ch1 := rfl
@[simp] theorem noiseClock64Hz_sweep (a : Apu) : (noiseClock64Hz a).sweep = a.sweep := rfl
@[simp] theorem noiseClock64Hz_ch2 (a : Apu) : (noiseClock64Hz a).ch2 = a.ch2 := rfl
@[simp] theorem noiseClock64Hz_ch3 (a : Apu) : (noiseClock64Hz a).ch3 = a.ch3 := rfl
@[simp] theorem noiseClock64Hz_fs (a : Apu) : (noiseClock64Hz a).fs = a.fs := rfl
@[simp] theorem noiseClock64Hz_sampleTimer (a : Apu) : (noiseClock64Hz a).sampleTimer = a.sampleTimer := rfl
@[simp] theorem noiseClock64Hz_left (a : Apu) : (noiseClock64Hz a).left = a.left := rfl
@[simp] theorem noiseClock64Hz_right (a : Apu) : (noiseClock64Hz a).right = a.right := rfl

@[simp] theorem lengthClocks_regs (a : Apu) : (lengthClocks a).regs = a.regs := rfl
@[simp] theorem lengthClocks_masterPower (a : Apu) : (lengthClocks a).masterPower = a.masterPower := rfl
@[simp] theorem lengthClocks_waveRam (a : Apu) : (lengthClocks a).waveRam = a.waveRam := rfl
@[simp] theorem lengthClocks_sweep (a : Apu) : (lengthClocks a).sweep = a.sweep := rfl
@[simp] theorem lengthClocks_fs (a : Apu) : (lengthClocks a).fs = a.fs := rfl
@[simp] theorem lengthClocks_sampleTimer (a : Apu) : (lengthClocks a).sampleTimer = a.sampleTimer := rfl
@[simp] theorem lengthClocks_left (a : Apu) : (lengthClocks a).left = a.left := rfl
@[simp] theorem lengthClocks_right (a : Apu) : (lengthClocks a).right = a.right := rfl

@[simp] theorem envelopeClocks_regs (a : Apu) : (envelopeClocks a).regs = a.regs := rfl
@[simp] theorem envelopeClocks_masterPower (a : Apu) : (envelopeClocks a).masterPower = a.masterPower := rfl
@[simp] theorem envelopeClocks_waveRam (a : Apu) : (envelopeClocks a).waveRam = a.waveRam := rfl
@[simp] theorem envelopeClocks_sweep (a : Apu) : (envelopeClocks a).sweep = a.sweep := rfl
@[simp] theorem envelopeClocks_ch3 (a : Apu) : (envelopeClocks a).ch3 = a.ch3 := rfl
@[simp] theorem envelopeClocks_fs (a : Apu) : (envelopeClocks a).fs = a.fs := rfl
@[simp] theorem envelopeClocks_sampleTimer (a : Apu) : (envelopeClocks a).sampleTimer = a.sampleTimer := rfl
@[simp] theorem envelopeClocks_left (a : Apu) : (envelopeClocks a).left = a.left := rfl
@[simp] theorem envelopeClocks_right (a : Apu) : (envelopeClocks a).right = a.right := rfl

@[simp] theorem sweepCommit_masterPower (f : BitVec 11) (a : Apu) : (sweepCommit f a).masterPower = a.masterPower := rfl
@[simp] theorem sweepCommit_waveRam (f : BitVec 11) (a : Apu) : (sweepCommit f a).waveRam = a.waveRam := rfl
@[simp] theorem sweepCommit_ch1 (f : BitVec 11) (a : Apu) : (sweepCommit f a).ch1 = a.ch1 := rfl
@[simp] theorem sweepCommit_ch2 (f : BitVec 11) (a : Apu) : (sweepCommit f a).ch2 = a.ch2 := rfl
@[simp] theorem sweepCommit_ch3 (f : BitVec 11) (a : Apu) : (sweepCommit f a).ch3 = a.ch3 := rfl
@[simp] theorem sweepCommit_ch4 (f : BitVec 11) (a : Apu) : (sweepCommit f a).ch4 = a.ch4 := rfl
@[simp] theorem sweepCommit_fs (f : BitVec 11) (a : Apu) : (sweepCommit f a).fs = a.fs := rfl
@[simp] theorem sweepCommit_sampleTimer (f : BitVec 11) (a : Apu) : (sweepCommit f a).sampleTimer = a.sampleTimer := rfl
@[simp] theorem sweepCommit_left (f : BitVec 11) (a : Apu) : (sweepCommit f a).left = a.left := rfl
@[simp] theorem sweepCommit_right (f : BitVec 11) (a : Apu) : (sweepCommit f a).right = a.right := rfl

@[simp] theorem sweepCalculate_masterPower (a : Apu) : (sweepCalculate a).masterPower = a.masterPower := by
  unfold sweepCalculate; dsimp only; split_ifs <;> rfl
@[simp] theorem sweepCalculate_waveRam (a : Apu) : (sweepCalculate a).waveRam = a.waveRam := by
  unfold sweepCalculate; dsimp only; split_ifs <;> rfl
@[simp] theorem sweepCalculate_ch2 (a : Apu) : (sweepCalculate a).ch2 = a.ch2 := by
  unfold sweepCalculate; dsimp only; split_ifs <;> rfl
@[simp] theorem sweepCalculate_ch3 (a : Apu) : (sweepCalculate a).ch3 = a.ch3 := by
  unfold sweepCalculate; dsimp only; split_ifs <;> rfl
@[simp] theorem sweepCalculate_ch4 (a : Apu) : (sweepCalculate a).ch4 = a.ch4 := by
  unfold sweepCalculate; dsimp only; split_ifs <;> rfl
@[simp] theorem sweepCalculate_fs (a : Apu) : (sweepCalculate a).fs = a.fs := by
  unfold sweepCalculate; dsimp only; split_ifs <;> rfl
@[simp] theorem sweepCalculate_sampleTimer (a : Apu) : (sweepCalculate a).sampleTimer = a.sampleTimer := by
  unfold sweepCalculate; dsimp only; split_ifs <;> rfl
@[simp] theorem sweepCalculate_left (a : Apu) : (sweepCalculate a).left = a.left := by
  unfold sweepCalculate; dsimp only; split_ifs <;> rfl
@[simp] theorem sweepCalculate_right (a : Apu) : (sweepCalculate a).right = a.right := by
  unfold sweepCalculate; dsimp only; split_ifs <;> rfl

@[simp] theorem clock128Hz_masterPower (a : Apu) : (clock128Hz a).masterPower = a.masterPower := by
  unfold clock128Hz; dsimp only; split_ifs <;> simp
@[simp] theorem clock128Hz_waveRam (a : Apu) : (clock128Hz a).waveRam = a.waveRam := by
  unfold clock128Hz; dsimp only; split_ifs <;> simp
@[simp] theorem clock128Hz_ch2 (a : Apu) : (clock128Hz a).ch2 = a.ch2 := by
  unfold clock128Hz; dsimp only; split_ifs <;> simp
@[simp] theorem clock128Hz_ch3 (a : Apu) : (clock128Hz a).ch3 = a.ch3 := by
  unfold clock128Hz; dsimp only; split_ifs <;> simp
@[simp] theorem clock128Hz_ch4 (a : Apu) : (clock128Hz a).ch4 = a.ch4 := by
  unfold clock128Hz; dsimp only; split_ifs <;> simp
@[simp] theorem clock128Hz_fs (a : Apu) : (clock128Hz a).fs = a.fs := by
  unfold clock128Hz; dsimp only; split_ifs <;> simp
@[simp] theorem clock128Hz_sampleTimer (a : Apu) : (clock128Hz a).sampleTimer = a.sampleTimer := by
  unfold clock128Hz; dsimp only; split_ifs <;> simp
@[simp] theorem clock128Hz_left (a : Apu) : (clock128Hz a).left = a.left := by
  unfold clock128Hz; dsimp only; split_ifs <;> simp
@[simp] theorem clock128Hz_right (a : Apu) : (clock128Hz a).right = a.right := by
  unfold clock128Hz; dsimp only; split_ifs <;> simp

@[simp] theorem fsFire_masterPower (s : BitVec 3) (a : Apu) : (fsFire s a).masterPower = a.masterPower := by
  unfold fsFire; dsimp only; split_ifs <;> simp
@[simp] theorem fsFire_waveRam (s : BitVec 3) (a : Apu) : (fsFire s a).waveRam = a.waveRam := by
  unfold fsFire; dsimp only; split_ifs <;> simp
@[simp] theorem fsFire_fs (s : BitVec 3) (a : Apu) : (fsFire s a).fs = a.fs := by
  unfold fsFire; dsimp only; split_ifs <;> simp
@[simp] theorem fsFire_sampleTimer (s : BitVec 3) (a : Apu) : (fsFire s a).sampleTimer = a.sampleTimer := by
  unfold fsFire; dsimp only; split_ifs <;> simp
@[simp] theorem fsFire_left (s : BitVec 3) (a : Apu) : (fsFire s a).left = a.left := by
  unfold fsFire; dsimp only; split_ifs <;> simp
@[simp] theorem fsFire_right (s : BitVec 3) (a : Apu) : (fsFire s a).right = a.right := by
  unfold fsFire; dsimp only; split_ifs <;> simp

@[simp] theorem fsTick_masterPower (a : Apu) : (fsTick a).masterPower = a.masterPower := by
  unfold fsTick; dsimp only; split_ifs <;> simp
@[simp] theorem fsTick_waveRam (a : Apu) : (fsTick a).waveRam = a.waveRam := by
  unfold fsTick; dsimp only; split_ifs <;> simp
@[simp] theorem fsTick_sampleTimer (a : Apu) : (fsTick a).sampleTimer = a.sampleTimer := by
  unfold fsTick; dsimp only; split_ifs <;> simp
@[simp] theorem fsTick_left (a : Apu) : (fsTick a).left = a.left := by
  unfold fsTick; dsimp only; split_ifs <;> simp
@[simp] theorem fsTick_right (a : Apu) : (fsTick a).right = a.right := by
  unfold fsTick; dsimp only; split_ifs <;> simp

@[simp] theorem pulseClockTimer_ch1_regs (a : Apu) : (pulseClockTimer .ch1 a).regs = a.regs := by
  unfold pulseClockTimer; dsimp only; split_ifs <;> rfl
@[simp] theorem pulseClockTimer_ch1_masterPower (a : Apu) : (pulseClockTimer .ch1 a).masterPower = a.masterPower := by
  unfold pulseClockTimer; dsimp only; split_ifs <;> rfl
@[simp] theorem pulseClockTimer_ch1_waveRam (a : Apu) : (pulseClockTimer .ch1 a).waveRam = a.waveRam := by
  unfold pulseClockTimer; dsimp only; split_ifs <;> rfl
@[simp] theorem pulseClockTimer_ch1_sweep (a : Apu) : (pulseClockTimer .ch1 a).sweep = a.sweep := by
  unfold pulseClockTimer; dsimp only; split_ifs <;> rfl
@[simp] theorem pulseClockTimer_ch1_ch2 (a : Apu) : (pulseClockTimer .ch1 a).ch2 = a.ch2 := by
  unfold pulseClockTimer; dsimp only; split_ifs <;> rfl
@[simp] theorem pulseClockTimer_ch1_ch3 (a : Apu) : (pulseClockTimer .ch1 a).ch3 = a.ch3 := by
  unfold pulseClockTimer; dsimp only; split_ifs <;> rfl
@[simp] theorem pulseClockTimer_ch1_ch4 (a : Apu) : (pulseClockTimer .ch1 a).ch4 = a.ch4 := by
  unfold pulseClockTimer; dsimp only; split_ifs <;> rfl
@[simp] theorem pulseClockTimer_ch1_fs (a : Apu) : (pulseClockTimer .ch1 a).fs = a.fs := by
  unfold pulseClockTimer; dsimp only; split_ifs <;> rfl
@[simp] theorem pulseClockTimer_ch1_sampleTimer (a : Apu) : (pulseClockTimer .ch1 a).sampleTimer = a.sampleTimer := by
  unfold pulseClockTimer; dsimp only; split_ifs <;> rfl
@[simp] theorem pulseClockTimer_ch1_left (a : Apu) : (pulseClockTimer .ch1 a).left = a.left := by
  unfold pulseClockTimer; dsimp only; split_ifs <;> rfl
@[simp] theorem pulseClockTimer_ch1_right (a : Apu) : (pulseClockTimer .ch1 a).right = a.right := by
  unfold pulseClockTimer; dsimp only; split_ifs <;> rfl

@[simp] theorem pulseClockTimer_ch2_regs (a : Apu) : (pulseClockTimer .ch2 a).regs = a.regs := by
  unfold pulseClockTimer; dsimp only; split_ifs <;> rfl
@[simp] theorem pulseClockTimer_ch2_masterPower (a : Apu) : (pulseClockTimer .ch2 a).masterPower = a.masterPower := by
  unfold pulseClockTimer; dsimp only; split_ifs <;> rfl
@[simp] theorem pulseClockTimer_ch2_waveRam (a : Apu) : (pulseClockTimer .ch2 a).waveRam = a.waveRam := by
  unfold pulseClockTimer; dsimp only; split_ifs <;> rfl
@[simp] theorem pulseClockTimer_ch2_ch1 (a : Apu) : (pulseClockTimer .ch2 a).ch1 = a.ch1 := by
  unfold pulseClockTimer; dsimp only; split_ifs <;> rfl
@[simp] theorem pulseClockTimer_ch2_sweep (a : Apu) : (pulseClockTimer .ch2 a).sweep = a.sweep := by
  unfold pulseClockTimer; dsimp only; split_ifs <;> rfl
@[simp] theorem pulseClockTimer_ch2_ch3 (a : Apu) : (pulseClockTimer .ch2 a).ch3 = a.ch3 := by
  unfold pulseClockTimer; dsimp only; split_ifs <;> rfl
@[simp] theorem pulseClockTimer_ch2_ch4 (a : Apu) : (pulseClockTimer .ch2 a).ch4 = a.ch4 := by
  unfold pulseClockTimer; dsimp only; split_ifs <;> rfl
@[simp] theorem pulseClockTimer_ch2_fs (a : Apu) : (pulseClockTimer .ch2 a).fs = a.fs := by
  unfold pulseClockTimer; dsimp only; split_ifs <;> rfl
@[simp] theorem pulseClockTimer_ch2_sampleTimer (a : Apu) : (pulseClockTimer .ch2 a).sampleTimer = a.sampleTimer := by
  unfold pulseClockTimer; dsimp only; split_ifs <;> rfl
@[simp] theorem pulseClockTimer_ch2_left (a : Apu) : (pulseClockTimer .ch2 a).left = a.left := by
  unfold pulseClockTimer; dsimp only; split_ifs <;> rfl
@[simp] theorem pulseClockTimer_ch2_right (a : Apu) : (pulseClockTimer .ch2 a).right = a.right := by
  unfold pulseClockTimer; dsimp only; split_ifs <;> rfl

@[simp] theorem waveClockTimer_regs (a : Apu) : (waveClockTimer a).regs = a.regs := by
  unfold waveClockTimer; dsimp only; split_ifs <;> rfl
@[simp] theorem waveClockTimer_masterPower (a : Apu) : (waveClockTimer a).masterPower = a.masterPower := by
  unfold waveClockTimer; dsimp only; split_ifs <;> rfl
@[simp] theorem waveClockTimer_waveRam (a : Apu) : (waveClockTimer a).waveRam = a.waveRam := by
  unfold waveClockTimer; dsimp only; split_ifs <;> rfl
@[simp] theorem waveClockTimer_ch1 (a : Apu) : (waveClockTimer a).ch1 = a.ch1 := by
  unfold waveClockTimer; dsimp only; split_ifs <;> rfl
@[simp] theorem waveClockTimer_sweep (a : Apu) : (waveClockTimer a).sweep = a.sweep := by
  unfold waveClockTimer; dsimp only; split_ifs <;> rfl
@[simp] theorem waveClockTimer_ch2 (a : Apu) : (waveClockTimer a).ch2 = a.ch2 := by
  unfold waveClockTimer; dsimp only; split_ifs <;> rfl
@[simp] theorem waveClockTimer_ch4 (a : Apu) : (waveClockTimer a).ch4 = a.ch4 := by
  unfold waveClockTimer; dsimp only; split_ifs <;> rfl
@[simp] theorem waveClockTimer_fs (a : Apu) : (waveClockTimer a).fs = a.fs := by
  unfold waveClockTimer; dsimp only; split_ifs <;> rfl
@[simp] theorem waveClockTimer_sampleTimer (a : Apu) : (waveClockTimer a).sampleTimer = a.sampleTimer := by
  unfold waveClockTimer; dsimp only; split_ifs <;> rfl
@[simp] theorem waveClockTimer_left (a : Apu) : (waveClockTimer a).left = a.left := by
  unfold waveClockTimer; dsimp only; split_ifs <;> rfl
@[simp] theorem waveClockTimer_right (a : Apu) : (waveClockTimer a).right = a.right := by
  unfold waveClockTimer; dsimp only; split_ifs <;> rfl

@[simp] theorem noiseClockTimer_regs (c : Config) (a : Apu) : (noiseClockTimer c a).regs = a.regs := by
  unfold noiseClockTimer; dsimp only; split_ifs <;> rfl
@[simp] theorem noiseClockTimer_masterPower (c : Config) (a : Apu) : (noiseClockTimer c a).masterPower = a.masterPower := by
  unfold noiseClockTimer; dsimp only; split_ifs <;> rfl
@[simp] theorem noiseClockTimer_waveRam (c : Config) (a : Apu) : (noiseClockTimer c a).waveRam = a.waveRam := by
  unfold noiseClockTimer; dsimp only; split_ifs <;> rfl
@[simp] theorem noiseClockTimer_ch1 (c : Config) (a : Apu) : (noiseClockTimer c a).ch1 = a.ch1 := by
  unfold noiseClockTimer; dsimp only; split_ifs <;> rfl
@[simp] theorem noiseClockTimer_sweep (c : Config) (a : Apu) : (noiseClockTimer c a).sweep = a.sweep := by
  unfold noiseClockTimer; dsimp only; split_ifs <;> rfl
@[simp] theorem noiseClockTimer_ch2 (c : Config) (a : Apu) : (noiseClockTimer c a).ch2 = a.ch2 := by
  unfold noiseClockTimer; dsimp only; split_ifs <;> rfl
@[simp] theorem noiseClockTimer_ch3 (c : Config) (a : Apu) : (noiseClockTimer c a).ch3 = a.ch3 := by
  unfold noiseClockTimer; dsimp only; split_ifs <;> rfl
@[simp] theorem noiseClockTimer_fs (c : Config) (a : Apu) : (noiseClockTimer c a).fs = a.fs := by
  unfold noiseClockTimer; dsimp only; split_ifs <;> rfl
@[simp] theorem noiseClockTimer_sampleTimer (c : Config) (a : Apu) : (noiseClockTimer c a).sampleTimer = a.sampleTimer := by
  unfold noiseClockTimer; dsimp only; split_ifs <;> rfl
@[simp] theorem noiseClockTimer_left (c : Config) (a : Apu) : (noiseClockTimer c a).left = a.left := by
  unfold noiseClockTimer; dsimp only; split_ifs <;> rfl
@[simp] theorem noiseClockTimer_right (c : Config) (a : Apu) : (noiseClockTimer c a).right = a.right := by
  unfold noiseClockTimer; dsimp only; split_ifs <;> rfl

@[simp] theorem sampleTick_regs (c : Config) (a : Apu) : (sampleTick c a).regs = a.regs := by
  unfold sampleTick; dsimp only; cases latchDue a.sampleTimer <;> simp
@[simp] theorem sampleTick_masterPower (c : Config) (a : Apu) : (sampleTick c a).masterPower = a.masterPower := by
  unfold sampleTick; dsimp only; cases latchDue a.sampleTimer <;> simp
@[simp] theorem sampleTick_waveRam (c : Config) (a : Apu) : (sampleTick c a).waveRam = a.waveRam := by
  unfold sampleTick; dsimp only; cases latchDue a.sampleTimer <;> simp
@[simp] theorem sampleTick_ch1 (c : Config) (a : Apu) : (sampleTick c a).ch1 = a.ch1 := by
  unfold sampleTick; dsimp only; cases latchDue a.sampleTimer <;> simp
@[simp] theorem sampleTick_sweep (c : Config) (a : Apu) : (sampleTick c a).sweep = a.sweep := by
  unfold sampleTick; dsimp only; cases latchDue a.sampleTimer <;> simp
@[simp] theorem sampleTick_ch2 (c : Config) (a : Apu) : (sampleTick c a).ch2 = a.ch2 := by
  unfold sampleTick; dsimp only; cases latchDue a.sampleTimer <;> simp
@[simp] theorem sampleTick_ch3 (c : Config) (a : Apu) : (sampleTick c a).ch3 = a.ch3 := by
  unfold sampleTick; dsimp only; cases latchDue a.sampleTimer <;> simp
@[simp] theorem sampleTick_ch4 (c : Config) (a : Apu) : (sampleTick c a).ch4 = a.ch4 := by
  unfold sampleTick; dsimp only; cases latchDue a.sampleTimer <;> simp
@[simp] theorem sampleTick_fs (c : Config) (a : Apu) : (sampleTick c a).fs = a.fs := by
  unfold sampleTick; dsimp only; cases latchDue a.sampleTimer <;> simp

/-! ### Parts that read only what they keep -/

theorem pulseClockTimer_ch1_congr {a b : Apu} (hp : a.ch1 = b.ch1) (hr : a.regs = b.regs) :
    (pulseClockTimer .ch1 a).ch1 = (pulseClockTimer .ch1 b).ch1 := by
  have ha : a.pulse .ch1 = b.pulse .ch1 := hp
  have hf : a.pulseFrequency .ch1 = b.pulseFrequency .ch1 := by simp only [Apu.pulseFrequency, Apu.reg, hr]
  unfold pulseClockTimer
  rw [ha, hf]
  by_cases h : countDown (b.pulse .ch1).frequencyTimer = 0#14 <;> simp only [h, if_true, if_false] <;> rfl

theorem pulseClockTimer_ch2_congr {a b : Apu} (hp : a.ch2 = b.ch2) (hr : a.regs = b.regs) :
    (pulseClockTimer .ch2 a).ch2 = (pulseClockTimer .ch2 b).ch2 := by
  have ha : a.pulse .ch2 = b.pulse .ch2 := hp
  have hf : a.pulseFrequency .ch2 = b.pulseFrequency .ch2 := by simp only [Apu.pulseFrequency, Apu.reg, hr]
  unfold pulseClockTimer
  rw [ha, hf]
  by_cases h : countDown (b.pulse .ch2).frequencyTimer = 0#14 <;> simp only [h, if_true, if_false] <;> rfl

theorem waveClockTimer_ch3_congr {a b : Apu} (hp : a.ch3 = b.ch3) (hr : a.regs = b.regs) :
    (waveClockTimer a).ch3 = (waveClockTimer b).ch3 := by
  unfold waveClockTimer
  simp only [Apu.waveFrequency, Apu.reg, hp, hr]
  by_cases h : countDown b.ch3.frequencyTimer = 0#13 <;> simp only [h, if_true, if_false] <;> rfl

theorem noiseClockTimer_ch4_congr {c : Config} {a b : Apu} (hp : a.ch4 = b.ch4) (hr : a.regs = b.regs) :
    (noiseClockTimer c a).ch4 = (noiseClockTimer c b).ch4 := by
  unfold noiseClockTimer
  simp only [Apu.reg, hp, hr]
  by_cases h : countDown b.ch4.frequencyTimer = 0#22 <;> simp only [h, if_true, if_false] <;> rfl

/-! ### A whole STEP, field by field -/

@[simp] theorem clockCycle_masterPower (c : Config) (a : Apu) : (clockCycle c a).masterPower = a.masterPower := by simp [clockCycle]
@[simp] theorem clockCycle_waveRam (c : Config) (a : Apu) : (clockCycle c a).waveRam = a.waveRam := by simp [clockCycle]
theorem clockCycle_regs (c : Config) (a : Apu) : (clockCycle c a).regs = (fsTick a).regs := by simp [clockCycle]
theorem clockCycle_sweep (c : Config) (a : Apu) : (clockCycle c a).sweep = (fsTick a).sweep := by simp [clockCycle]
theorem clockCycle_fs (c : Config) (a : Apu) : (clockCycle c a).fs = (fsTick a).fs := by simp [clockCycle]
theorem clockCycle_ch1 (c : Config) (a : Apu) : (clockCycle c a).ch1 = (pulseClockTimer .ch1 (fsTick a)).ch1 := by
  simp [clockCycle]
theorem clockCycle_ch2 (c : Config) (a : Apu) : (clockCycle c a).ch2 = (pulseClockTimer .ch2 (fsTick a)).ch2 := by
  simp only [clockCycle, sampleTick_ch2, noiseClockTimer_ch2, waveClockTimer_ch2]
  exact pulseClockTimer_ch2_congr (by simp) (by simp)
theorem clockCycle_ch3 (c : Config) (a : Apu) : (clockCycle c a).ch3 = (waveClockTimer (fsTick a)).ch3 := by
  simp only [clockCycle, sampleTick_ch3, noiseClockTimer_ch3]
  exact waveClockTimer_ch3_congr (by simp) (by simp)
theorem clockCycle_ch4 (c : Config) (a : Apu) : (clockCycle c a).ch4 = (noiseClockTimer c (fsTick a)).ch4 := by
  simp only [clockCycle, sampleTick_ch4]
  exact noiseClockTimer_ch4_congr (by simp) (by simp)

/-! ### Frame-sequencer clocks, channel by channel -/

theorem clock256Hz_ch1_ch1 (a : Apu) : (clock256Hz .ch1 a).ch1 =
    { a.ch1 with
      lengthCounter := (lengthTick (a.lengthEnable .ch1) a.ch1.lengthCounter a.ch1.enabled).1
      enabled := (lengthTick (a.lengthEnable .ch1) a.ch1.lengthCounter a.ch1.enabled).2 } := rfl
theorem lengthClocks_ch1 (a : Apu) : (lengthClocks a).ch1 = (clock256Hz .ch1 a).ch1 := rfl
theorem lengthClocks_ch2 (a : Apu) : (lengthClocks a).ch2 = (clock256Hz .ch2 a).ch2 := rfl
theorem lengthClocks_ch3 (a : Apu) : (lengthClocks a).ch3 = (clock256Hz .ch3 a).ch3 := rfl
theorem lengthClocks_ch4 (a : Apu) : (lengthClocks a).ch4 = (clock256Hz .ch4 a).ch4 := rfl
theorem envelopeClocks_ch1 (a : Apu) : (envelopeClocks a).ch1 = (pulseClock64Hz .ch1 a).ch1 := rfl
theorem envelopeClocks_ch2 (a : Apu) : (envelopeClocks a).ch2 = (pulseClock64Hz .ch2 a).ch2 := rfl
theorem envelopeClocks_ch4 (a : Apu) : (envelopeClocks a).ch4 = (noiseClock64Hz a).ch4 := rfl

/-- The sweep clock changes a stored byte only in a commit: NR13 and NR14[2:0] (41_sweep_unit.md R195). -/
theorem clock128Hz_reg (a : Apu) {x : CtrlReg} (h13 : x ≠ .nr13) (h14 : x ≠ .nr14) :
    (clock128Hz a).reg x = a.reg x := by
  have hc : ∀ (f : BitVec 11) (b : Apu), (sweepCommit f b).reg x = b.reg x := fun f b => by
    simp [sweepCommit, Apu.store_reg, h13, h14]
  have hk : ∀ b : Apu, (sweepCalculate b).reg x = b.reg x := fun b => by
    unfold sweepCalculate
    dsimp only
    split_ifs <;> simp [hc]
  unfold clock128Hz
  dsimp only
  split_ifs <;> simp [hk]

theorem fsTick_reg (a : Apu) {x : CtrlReg} (h13 : x ≠ .nr13) (h14 : x ≠ .nr14) : (fsTick a).reg x = a.reg x := by
  have hl : ∀ b : Apu, (lengthClocks b).reg x = b.reg x := fun _ => rfl
  have he : ∀ b : Apu, (envelopeClocks b).reg x = b.reg x := fun _ => rfl
  unfold fsTick fsFire
  dsimp only
  split_ifs <;> simp [hl, he, clock128Hz_reg, h13, h14]

/-- A `STEP` changes no stored byte but NR13 and NR14. -/
theorem clockCycle_reg (c : Config) (a : Apu) {x : CtrlReg} (h13 : x ≠ .nr13) (h14 : x ≠ .nr14) :
    (clockCycle c a).reg x = a.reg x := by
  rw [← fsTick_reg a h13 h14]
  simp only [Apu.reg, clockCycle_regs]

end Sys2Proof.Machine
end

