-- ==== Sys2Proof/Laws/Memory.lean ====
section
/-! SUPPORT. Memory: a read after a write, and the canonical form that every memory operation keeps. -/
namespace Sys2Proof.Machine

theorem memRead_memCons (a : Nat) (v : Byte) (rest : Memory) (x : Nat) (h : v = unlistedByte → memRead rest a = v) :
    memRead (memCons a v rest) x = if x = a then v else memRead rest x := by
  unfold memCons
  split
  · next hv =>
    split
    · next hx => subst hx; exact h hv
    · rfl
  · simp only [memRead, eq_comm]

/-- Below every listed address memory reads as unlisted. -/
theorem memRead_of_lt {m : Memory} {lo x : Nat} (h : memWfFrom lo m = true) (hx : x < lo) :
    memRead m x = unlistedByte := by
  induction m generalizing lo with
  | nil => rfl
  | cons c rest ih =>
    obtain ⟨k, b⟩ := c
    simp only [memWfFrom, Bool.and_eq_true, decide_eq_true_eq] at h
    obtain ⟨⟨⟨hk, _⟩, _⟩, hr⟩ := h
    have : k ≠ x := by omega
    simp only [memRead, this, if_false]
    exact ih hr (by omega)

theorem memWfFrom_mono {m : Memory} {lo lo' : Nat} (h : memWfFrom lo m = true) (hl : lo' ≤ lo) :
    memWfFrom lo' m = true := by
  cases m with
  | nil => rfl
  | cons c rest =>
    obtain ⟨k, b⟩ := c
    simp only [memWfFrom, Bool.and_eq_true, decide_eq_true_eq] at h ⊢
    exact ⟨⟨⟨by omega, h.1.1.2⟩, h.1.2⟩, h.2⟩

/-- A read after a write. -/
theorem memRead_memWrite {m : Memory} {lo : Nat} (h : memWfFrom lo m = true) (a : Nat) (v : Byte) (x : Nat) :
    memRead (memWrite m a v) x = if x = a then v else memRead m x := by
  induction m generalizing lo with
  | nil => exact memRead_memCons a v [] x (fun hv => hv.symm ▸ rfl)
  | cons c rest ih =>
    obtain ⟨k, b⟩ := c
    have hw := h
    simp only [memWfFrom, Bool.and_eq_true, decide_eq_true_eq] at h
    obtain ⟨⟨⟨hk, hlast⟩, hb⟩, hr⟩ := h
    simp only [memWrite]
    split
    · next hlt =>
      refine memRead_memCons a v _ x fun hv => ?_
      have hne : k ≠ a := by omega
      rw [hv]
      simp only [memRead, hne, if_false]
      exact memRead_of_lt hr (by omega)
    · split
      · next hne heq =>
        subst heq
        rw [memRead_memCons a v rest x fun hv => by rw [hv]; exact memRead_of_lt hr (by omega)]
        by_cases hx : x = a
        · simp [hx]
        · have : ¬a = x := fun h => hx h.symm
          simp [hx, memRead, this]
      · next hnlt hne =>
        simp only [memRead, ih hr]
        by_cases hx : k = x
        · have : ¬x = a := by omega
          simp [hx, this]
        · simp [hx]

theorem memWfFrom_memCons {a lo : Nat} {v : Byte} {rest : Memory} (hlo : lo ≤ a) (hlast : a ≤ waveLast)
    (h : memWfFrom (a + 1) rest = true) : memWfFrom lo (memCons a v rest) = true := by
  unfold memCons
  split
  · exact memWfFrom_mono h (by omega)
  · next hv =>
    simp only [memWfFrom, Bool.and_eq_true, decide_eq_true_eq]
    exact ⟨⟨⟨hlo, hlast⟩, hv⟩, h⟩

theorem memWfFrom_memWrite {m : Memory} {lo a : Nat} (v : Byte) (h : memWfFrom lo m = true) (hlo : lo ≤ a)
    (hlast : a ≤ waveLast) : memWfFrom lo (memWrite m a v) = true := by
  induction m generalizing lo with
  | nil => exact memWfFrom_memCons hlo hlast rfl
  | cons c rest ih =>
    obtain ⟨k, b⟩ := c
    have hw := h
    simp only [memWfFrom, Bool.and_eq_true, decide_eq_true_eq] at h
    obtain ⟨⟨⟨hk, hklast⟩, hb⟩, hr⟩ := h
    simp only [memWrite]
    split
    · next hlt =>
      refine memWfFrom_memCons hlo hlast ?_
      simp only [memWfFrom, Bool.and_eq_true, decide_eq_true_eq]
      exact ⟨⟨⟨by omega, hklast⟩, hb⟩, hr⟩
    · split
      · next hne heq => subst heq; exact memWfFrom_memCons hlo hlast hr
      · next hnlt hne =>
        simp only [memWfFrom, Bool.and_eq_true, decide_eq_true_eq]
        exact ⟨⟨⟨hk, hklast⟩, hb⟩, ih hr (by omega)⟩

/-- A write inside the wave RAM window keeps the canonical form: the one memory operation there is. -/
theorem memWrite_wf {m : Memory} (k : BitVec 4) (v : Byte) (h : Memory.wf m = true) :
    Memory.wf (memWrite m (waveBase + k.toNat) v) = true := by
  refine memWfFrom_memWrite v h (by omega) ?_
  have := k.isLt
  simp only [waveBase, waveLast]
  omega

theorem reset_memory_wf : Memory.wf State.reset.apu.waveRam = true := rfl

/-- `waveRAM[j]` after `WR WAVE[k], v`. -/
theorem waveByte_memWrite {m : Memory} (h : Memory.wf m = true) (k j : BitVec 4) (v : Byte) :
    waveByte (memWrite m (waveBase + k.toNat) v) j = if j = k then v else waveByte m j := by
  unfold waveByte
  rw [memRead_memWrite h]
  by_cases hjk : j = k
  · simp [hjk]
  · have : ¬j.toNat = k.toNat := fun h => hjk (BitVec.eq_of_toNat_eq h)
    simp [hjk, this]

end Sys2Proof.Machine
end

