-- ==== Sys2Proof/Laws/Ops.lean ====
section
/-! SUPPORT. One specification lemma per shared operation: everything it can do, in numbers. -/
namespace Sys2Proof.Machine

/-! ### Accepting a write -/

theorem acceptWrite_on {x : CtrlReg} {v : Byte} {effect : Apu → Apu} {a : Apu} (h : a.masterPower = true) :
    acceptWrite x v effect a = effect (a.store x v) := by simp [acceptWrite, h]

theorem acceptWrite_off {x : CtrlReg} {v : Byte} {effect : Apu → Apu} {a : Apu} (h : a.masterPower = false) :
    acceptWrite x v effect a = a := by simp [acceptWrite, h]

theorem readCtrl_on {c : Config} {x : CtrlReg} {a : Apu} (h : a.masterPower = true) :
    readCtrl c x a = a.reg x ||| c.readMask x := by simp [readCtrl, h]

theorem readCtrl_off {c : Config} {x : CtrlReg} {a : Apu} (h : a.masterPower = false) : readCtrl c x a = 0 := by
  simp [readCtrl, h]

/-! ### Counting down -/

theorem countDown_toNat {w : Nat} (t : BitVec w) : (countDown t).toNat = t.toNat - 1 := by
  unfold countDown
  split
  · next h => simp [h]
  · next h =>
    have h0 : t.toNat ≠ 0 := fun h' => h (BitVec.eq_of_toNat_eq (by simpa using h'))
    have h2 : 1 < 2 ^ w := by have := t.isLt; omega
    have h1 : (1#w).toNat = 1 := by simp only [BitVec.toNat_ofNat, Nat.mod_eq_of_lt h2]
    rw [BitVec.toNat_sub_of_le (by rw [BitVec.le_def, h1]; omega), h1]

theorem countDown_eq_zero {w : Nat} (t : BitVec w) : countDown t = 0#w ↔ t.toNat ≤ 1 := by
  rw [← BitVec.toNat_inj, countDown_toNat]
  simp
  omega

/-! ### Operand assembly in numbers -/

theorem freqOf_toNat (lo hi : Byte) : (freqOf lo hi).toNat = (hi.toNat % 8) * 256 + lo.toNat := by
  have h : (hi.extractLsb' 0 3).toNat = hi.toNat % 8 := by simp
  have hl := lo.isLt
  rw [freqOf, BitVec.toNat_append, h, Nat.shiftLeft_eq, ← Nat.shiftLeft_eq, ← Nat.shiftLeft_add_eq_or_of_lt hl,
    Nat.shiftLeft_eq]

theorem pulseReload_toNat (f : BitVec 11) : (pulseReload f).toNat = (2048 - f.toNat) * 4 := by
  have := f.isLt
  simp only [pulseReload, BitVec.toNat_ofNat]
  omega

theorem waveReload_toNat (f : BitVec 11) : (waveReload f).toNat = (2048 - f.toNat) * 2 := by
  have := f.isLt
  simp only [waveReload, BitVec.toNat_ofNat]
  omega

theorem noiseReload_toNat {c : Config} (h : ∀ d, c.noiseDivisor d ≤ 127) (v : Byte) :
    (noiseReload c v).toNat = c.noiseDivisor (divisorCodeOf v) * 2 ^ (clockShiftOf v).toNat := by
  have hd := h (divisorCodeOf v)
  have hs : (clockShiftOf v).toNat ≤ 15 := by have := (clockShiftOf v).isLt; omega
  have hp : 2 ^ (clockShiftOf v).toNat ≤ 2 ^ 15 := Nat.pow_le_pow_right (by omega) hs
  have : c.noiseDivisor (divisorCodeOf v) * 2 ^ (clockShiftOf v).toNat ≤ 127 * 2 ^ 15 := Nat.mul_le_mul hd hp
  rw [noiseReload, BitVec.toNat_ofNat, Nat.shiftLeft_eq, Nat.mod_eq_of_lt (by omega)]

theorem params_divisor_le (d : BitVec 3) : Config.params.noiseDivisor d ≤ 127 := by revert d; decide

theorem sweepReload_toNat (p : BitVec 3) : (sweepReload p).toNat = if p.toNat = 0 then 8 else p.toNat := by
  revert p; decide

theorem lengthLoad_toNat (v : Byte) : (lengthLoad v).toNat = 64 - v.toNat % 64 := by
  have h : (v.extractLsb' 0 6).toNat = v.toNat % 64 := by simp
  simp only [lengthLoad, BitVec.toNat_ofNat, h]
  omega

/-! ### The sample accumulator (46_mixer.md R318) -/

theorem latchDue_iff (t : BitVec 22) : latchDue t = true ↔ 4194304 ≤ t.toNat + 44100 := by
  unfold latchDue fMaster fSample
  rw [decide_eq_true_iff, Nat.add_comm]

theorem nextSampleTimer_toNat (t : BitVec 22) : (nextSampleTimer t).toNat = (t.toNat + 44100) % 4194304 := by
  have h := t.isLt
  unfold nextSampleTimer
  rw [BitVec.toNat_ofNat]
  by_cases hl : latchDue t = true
  · rw [if_pos hl]
    have := (latchDue_iff t).mp hl
    unfold fMaster fSample
    omega
  · rw [if_neg hl]
    have : ¬4194304 ≤ t.toNat + 44100 := fun h => hl ((latchDue_iff t).mpr h)
    unfold fSample
    omega

/-! ### The clocks' rules on one counter -/

/-- The length rule (R157) in numbers. -/
theorem lengthTick_spec {w : Nat} (en : Bool) (n : BitVec w) (b : Bool) :
    (lengthTick en n b).1.toNat = (if en then n.toNat - 1 else n.toNat) ∧
    (lengthTick en n b).2 = (b && !(en && decide (n.toNat = 1))) := by
  unfold lengthTick
  by_cases hn : n = 0#w
  · subst hn
    simp
  · have h0 : n.toNat ≠ 0 := fun h' => hn (BitVec.eq_of_toNat_eq (by simpa using h'))
    have hc : n - 1#w = countDown n := by simp [countDown, hn]
    have hz := countDown_eq_zero n
    have ht := countDown_toNat n
    cases en
    · simp
    · rw [show (true && n != 0#w) = true by simp [hn], if_pos rfl]
      dsimp only
      rw [hc, ht]
      refine ⟨rfl, ?_⟩
      by_cases h1 : n.toNat = 1
      · have h2 : countDown n = 0#w := hz.mpr (by omega)
        simp [h2, h1]
      · have h2 : countDown n ≠ 0#w := fun h => by have := hz.mp h; omega
        simp [h2, h1]

/-- A clamped volume step (R160) in numbers. -/
theorem volumeStep_toNat (up : Bool) (v : BitVec 4) :
    (volumeStep up v).toNat = if up then min 15 (v.toNat + 1) else v.toNat - 1 := by revert up v; decide

/-- The envelope rule (R160) by cases. -/
theorem envTick_cases (r : Byte) (t : BitVec 3) (v : BitVec 4) :
    (paceOf r = 0#3 ∧ envTick r t v = (t, v)) ∨
    (paceOf r ≠ 0#3 ∧ t.toNat ≤ 1 ∧ envTick r t v = (paceOf r, volumeStep (envUpOf r) v)) ∨
    (paceOf r ≠ 0#3 ∧ 1 < t.toNat ∧ envTick r t v = (countDown t, v)) := by
  unfold envTick
  by_cases hp : paceOf r = 0#3
  · exact .inl ⟨hp, if_pos hp⟩
  · rw [if_neg hp]
    by_cases ht : t.toNat ≤ 1
    · exact .inr (.inl ⟨hp, ht, if_pos ((countDown_eq_zero t).mpr ht)⟩)
    · exact .inr (.inr ⟨hp, by omega, if_neg fun h => ht ((countDown_eq_zero t).mp h)⟩)

/-- The sweep calculation never goes above 4094, and subtracting never overflows (R196). -/
theorem sweepCalc_le (shadow : BitVec 11) (r : Byte) :
    sweepCalc shadow r ≤ 4094 ∧ (sweepDownOf r = true → sweepCalc shadow r ≤ 2047) := by
  have h := shadow.isLt
  have hd : shadow.toNat >>> (sweepShiftOf r).toNat ≤ shadow.toNat := by
    rw [Nat.shiftRight_eq_div_pow]; exact Nat.div_le_self _ _
  unfold sweepCalc
  generalize shadow.toNat >>> (sweepShiftOf r).toNat = d at hd ⊢
  cases sweepDownOf r <;> simp <;> omega

end Sys2Proof.Machine
end

