-- ==== Sys2Proof/Laws/Views.lean ====
section
/-! SUPPORT. The views of a stored byte and the operand forms (30_encoding.md R118 to R122) in plain numbers, one lemma
per view. -/
namespace Sys2Proof.Machine

theorem envDacOf_eq (v : Byte) : envDacOf v = decide (v.toNat / 8 ≠ 0) := by revert v; decide
theorem waveDacOf_eq (v : Byte) : waveDacOf v = decide (v.toNat / 128 ≠ 0) := by revert v; decide
theorem triggerOf_eq (v : Byte) : triggerOf v = decide (v.toNat / 128 ≠ 0) := by revert v; decide
theorem initialVolumeOf_eq (v : Byte) : initialVolumeOf v = BitVec.ofNat 4 (v.toNat / 16) := by revert v; decide
theorem paceOf_eq (v : Byte) : paceOf v = BitVec.ofNat 3 (v.toNat % 8) := by revert v; decide
theorem paceOf_toNat (v : Byte) : (paceOf v).toNat = v.toNat % 8 := by revert v; decide
theorem sweepPeriodOf_toNat (v : Byte) : (sweepPeriodOf v).toNat = v.toNat / 16 % 8 := by revert v; decide
theorem sweepShiftOf_toNat (v : Byte) : (sweepShiftOf v).toNat = v.toNat % 8 := by revert v; decide
theorem dutyPatternOf_toNat (v : Byte) : (dutyPatternOf v).toNat = v.toNat / 64 := by revert v; decide
theorem volumeShiftCodeOf_toNat (v : Byte) : (volumeShiftCodeOf v).toNat = v.toNat / 32 % 4 := by revert v; decide
theorem clockShiftOf_toNat (v : Byte) : (clockShiftOf v).toNat = v.toNat / 16 := by revert v; decide
theorem divisorCodeOf_toNat (v : Byte) : (divisorCodeOf v).toNat = v.toNat % 8 := by revert v; decide
theorem masterVolumeOf_left_toNat (v : Byte) : (masterVolumeOf .left v).toNat = v.toNat / 16 % 8 := by revert v; decide
theorem masterVolumeOf_right_toNat (v : Byte) : (masterVolumeOf .right v).toNat = v.toNat % 8 := by revert v; decide
theorem lengthLoad_eq (v : Byte) : lengthLoad v = BitVec.ofNat 7 (64 - v.toNat % 64) := by revert v; decide
theorem waveLengthLoad_eq (v : Byte) : waveLengthLoad Config.params v = BitVec.ofNat 9 (64 - v.toNat % 64) := by
  revert v; decide

theorem pulseReload_freqOf (lo hi : Byte) :
    pulseReload (freqOf lo hi) = BitVec.ofNat 14 ((2048 - (hi.toNat % 8 * 256 + lo.toNat)) * 4) := by
  rw [← freqOf_toNat]; rfl
theorem waveReload_freqOf (lo hi : Byte) :
    waveReload (freqOf lo hi) = BitVec.ofNat 13 ((2048 - (hi.toNat % 8 * 256 + lo.toNat)) * 2) := by
  rw [← freqOf_toNat]; rfl

theorem pulseReload_le (f : BitVec 11) : (pulseReload f).toNat ≤ 8192 := by rw [pulseReload_toNat]; omega
theorem waveReload_le (f : BitVec 11) : (waveReload f).toNat ≤ 4096 := by rw [waveReload_toNat]; omega
theorem noiseReload_le {c : Config} {B : Nat} (hB : ∀ d, c.noiseDivisor d ≤ B) (h127 : B ≤ 127) (v : Byte) :
    (noiseReload c v).toNat ≤ B * 2 ^ 15 := by
  rw [noiseReload_toNat fun d => le_trans (hB d) h127]
  exact Nat.mul_le_mul (hB _) (Nat.pow_le_pow_right (by omega) (by have := (clockShiftOf v).isLt; omega))
theorem sweepReload_le (p : BitVec 3) : (sweepReload p).toNat ≤ 8 := by
  rw [sweepReload_toNat]; have := p.isLt; split <;> omega
theorem lengthLoad_le (v : Byte) : (lengthLoad v).toNat ≤ 64 := by rw [lengthLoad_toNat]; omega
theorem waveLengthLoad_le (c : Config) (v : Byte) : (waveLengthLoad c v).toNat ≤ c.waveLenMax.toNat := by
  unfold waveLengthLoad
  cases c.waveLenMax <;> revert v <;> decide

/-- `sweep_calc()` (41_sweep_unit.md R196) in numbers. -/
theorem sweepCalc_eq (f : BitVec 11) (r : Byte) :
    sweepCalc f r =
      if r.getLsbD 3 then f.toNat - f.toNat / 2 ^ (r.toNat % 8) else f.toNat + f.toNat / 2 ^ (r.toNat % 8) := by
  simp only [sweepCalc, sweepShiftOf_toNat, Nat.shiftRight_eq_div_pow, sweepDownOf]

/-- The LFSR's shift (43_noise_channel.md R242) bit by bit. -/
theorem lfsrShift_getLsbD (short : Bool) (l : BitVec 15) (i : Nat) (hi : i < 15) :
    (lfsrShift short l).getLsbD i =
      if i = 14 ∨ (i = 6 ∧ short = true) then (l.getLsbD 0 ^^ l.getLsbD 1) else l.getLsbD (i + 1) := by
  have hb : ∀ (b : Bool) (k : Nat), k < 15 → (lfsrBit b k).getLsbD i = (b && decide (i = k)) := by
    intro b k hk
    have : ∀ (b : Bool) (k i : Fin 15), (lfsrBit b k.val).getLsbD i.val = (b && decide (i.val = k.val)) := by decide
    exact this b ⟨k, hk⟩ ⟨i, hi⟩
  have hm : (0x7FBF#15).getLsbD i = !decide (i = 6) := by
    have : ∀ i : Fin 15, (0x7FBF#15).getLsbD i.val = !decide (i.val = 6) := by decide
    exact this ⟨i, hi⟩
  unfold lfsrShift
  dsimp only
  generalize (l.getLsbD 0 ^^ l.getLsbD 1) = x
  cases short
  · simp [hb, BitVec.getLsbD_ushiftRight]
    by_cases h : i = 14
    · subst h; simp
    · simp [h, Nat.add_comm]
  · simp only [BitVec.getLsbD_or, BitVec.getLsbD_and, hb _ _ (by decide : 14 < 15), hb _ _ (by decide : 6 < 15), hm,
      BitVec.getLsbD_ushiftRight, if_true]
    by_cases h : i = 14
    · subst h; simp
    · by_cases h6 : i = 6
      · subst h6; simp
      · simp [h, h6, Nat.add_comm]

end Sys2Proof.Machine
end

