-- ==== Sys2Proof/Laws/Clocks.lean ====
section
/-! SUPPORT. What each clock of the frame sequencer does (44_frame_sequencer.md R262), one lemma per shared part, and
the equations of `exec` that the claims start from. -/
namespace Sys2Proof.Machine

/-! ### exec, by kind of operation -/

theorem exec_step (s : State) : exec .step s = .next { s with apu := clockCycle Config.params s.apu } := rfl

theorem exec_ofWrite (x : CtrlReg) (v : Byte) (s : State) :
    exec (Instr.ofWrite x v) s = s.commit (wrCtrl Config.params x v s.apu) := by cases x <;> rfl

theorem exec_ofRead (x : CtrlReg) (s : State) :
    exec (Instr.ofRead x) s = s.reply (.byte (readCtrl Config.params x s.apu)) := by cases x <;> rfl

/-- What holds of the state a `STEP` leaves, from a statement that it answers one. -/
theorem of_exec_step {s : State} {P : State → Prop} (h : ∃ t : State, exec .step s = .next t ∧ P t) :
    P { s with apu := clockCycle Config.params s.apu } := by
  obtain ⟨t, ht, hp⟩ := h
  have : t = _ := (Host.Outcome.next.inj ((exec_step s).symm.trans ht)).symm
  rw [← this]; exact hp

/-- The block an operation leaves, from what the operation is. -/
theorem apu_of_commit {s t : State} {o : Host.Outcome State Fault Refusal} {a : Apu} (e : o = s.commit a)
    (h : o = .next t) : t.apu = a := by
  have : a = t.apu := congrArg State.apu (Host.Outcome.next.inj (e.symm.trans h))
  exact this.symm

/-! ### The frame sequencer -/

/-- The counter reaches 0 in this `STEP` exactly when it stands at 1. -/
theorem fs_due_iff (a : Apu) : a.fs.counter - 1#14 = 0#14 ↔ a.fs.counter = 1#14 := by
  constructor
  · intro h
    have := congrArg (· + 1#14) h
    simpa using this
  · intro h; rw [h]; rfl

/-- A `STEP` that fires: the clocks of the old step, then the next step (R261). -/
theorem fsTick_due (a : Apu) (h : a.fs.counter = 1#14) :
    fsTick a = (fsFire a.fs.step (a.setFs ⟨8192#14, a.fs.step⟩)).setFs ⟨8192#14, a.fs.step + 1#3⟩ := by
  unfold fsTick
  dsimp only
  rw [if_pos ((fs_due_iff a).mpr h), fsFire_fs]
  rfl

/-- A `STEP` that does not fire only counts. -/
theorem fsTick_notdue (a : Apu) (h : a.fs.counter ≠ 1#14) :
    fsTick a = a.setFs { a.fs with counter := a.fs.counter - 1#14 } := by
  unfold fsTick
  dsimp only
  rw [if_neg fun hh => h ((fs_due_iff a).mp hh)]

theorem firesLength_iff (s : BitVec 3) : firesLength s = true ↔ s.toNat % 2 = 0 := by revert s; decide
theorem firesSweep_iff (s : BitVec 3) : firesSweep s = true ↔ s = 2#3 ∨ s = 6#3 := by revert s; decide
theorem firesEnvelope_iff (s : BitVec 3) : firesEnvelope s = true ↔ s = 7#3 := by revert s; decide

/-- The sweep clock fires with the length clock and never with the envelope clock. -/
theorem fsFire_sweep {s : BitVec 3} (a : Apu) (h : s = 2#3 ∨ s = 6#3) : fsFire s a = clock128Hz (lengthClocks a) := by
  rcases h with h | h <;> rw [h] <;> rfl

/-! ### `enabled`, part by part -/

theorem setFs_enabled (a : Apu) (x : FrameSeq) (n : ChanId) : (a.setFs x).enabled n = a.enabled n := by cases n <;> rfl
theorem envelopeClocks_enabled (a : Apu) (n : ChanId) : (envelopeClocks a).enabled n = a.enabled n := by cases n <;> rfl
theorem pulseClockTimer_enabled (p : PulseId) (a : Apu) (n : ChanId) :
    (pulseClockTimer p a).enabled n = a.enabled n := by
  cases p <;> (unfold pulseClockTimer; dsimp only; split_ifs <;> cases n <;> rfl)
theorem clock128Hz_enabled (a : Apu) (n : ChanId) (hn : n ≠ .ch1) : (clock128Hz a).enabled n = a.enabled n := by
  cases n <;> simp_all [Apu.enabled]

/-- The flag after the length clock (R157). -/
theorem lengthClocks_enabled (n : ChanId) (a : Apu) (c : Nat)
    (hc : c = match n with
      | .ch1 => a.ch1.lengthCounter.toNat
      | .ch2 => a.ch2.lengthCounter.toNat
      | .ch3 => a.ch3.lengthCounter.toNat
      | .ch4 => a.ch4.lengthCounter.toNat) :
    (lengthClocks a).enabled n = (a.enabled n && !(a.lengthEnable n && decide (c = 1))) := by
  subst hc
  cases n
  · exact (lengthTick_spec (a.lengthEnable .ch1) a.ch1.lengthCounter a.ch1.enabled).2
  · exact (lengthTick_spec (a.lengthEnable .ch2) a.ch2.lengthCounter a.ch2.enabled).2
  · exact (lengthTick_spec (a.lengthEnable .ch3) a.ch3.lengthCounter a.ch3.enabled).2
  · exact (lengthTick_spec (a.lengthEnable .ch4) a.ch4.lengthCounter a.ch4.enabled).2

/-- A whole `STEP` leaves each flag as the frame sequencer's part leaves it. -/
theorem clockCycle_enabled (c : Config) (a : Apu) (n : ChanId) : (clockCycle c a).enabled n = (fsTick a).enabled n := by
  cases n <;> simp only [Apu.enabled]
  · rw [clockCycle_ch1]; exact pulseClockTimer_enabled .ch1 (fsTick a) .ch1
  · rw [clockCycle_ch2]; exact pulseClockTimer_enabled .ch2 (fsTick a) .ch2
  · rw [clockCycle_ch3]; unfold waveClockTimer; dsimp only; split_ifs <;> rfl
  · rw [clockCycle_ch4]; unfold noiseClockTimer; dsimp only; split_ifs <;> rfl

/-! ### The sweep unit -/

theorem sweepOverflow_iff (a : Apu) :
    a.sweepOverflow = true ↔ sweepCalc a.sweep.shadowFrequency a.regs.nr10 > 2047 := decide_eq_true_iff

theorem sweepShift_eq_zero (a : Apu) : a.sweepShift = 0#3 ↔ a.regs.nr10.toNat % 8 = 0 := by
  rw [← BitVec.toNat_inj, Apu.sweepShift, sweepShiftOf_toNat]; rfl

theorem sweepPeriod_eq_zero (a : Apu) : a.sweepPeriod = 0#3 ↔ a.regs.nr10.toNat / 16 % 8 = 0 := by
  rw [← BitVec.toNat_inj, Apu.sweepPeriod, sweepPeriodOf_toNat]; rfl

/-- A commit's NR14 (41_sweep_unit.md R195). -/
theorem sweepCommit_nr14 (f : BitVec 11) (a : Apu) :
    (sweepCommit f a).regs.nr14.toNat = a.regs.nr14.toNat / 8 * 8 + f.toNat / 256 := by
  show (a.regs.nr14.extractLsb' 3 5 ++ f.extractLsb' 8 3).toNat = _
  rw [BitVec.toNat_append, ← Nat.shiftLeft_add_eq_or_of_lt (BitVec.isLt _), Nat.shiftLeft_eq]
  simp only [BitVec.extractLsb'_toNat, Nat.shiftRight_eq_div_pow]
  have := f.isLt
  have := a.regs.nr14.isLt
  omega

/-- A commit's NR13. -/
theorem sweepCommit_nr13 (f : BitVec 11) (a : Apu) : (sweepCommit f a).regs.nr13.toNat = f.toNat % 256 := by
  show (f.extractLsb' 0 8).toNat = _
  simp

/-- The three ways the calculation of a 128 Hz clock ends (R194). -/
theorem sweepCalculate_cases (a : Apu) :
    (sweepCalc a.sweep.shadowFrequency a.regs.nr10 > 2047 ∧ sweepCalculate a = a.disable .ch1) ∨
    (sweepCalc a.sweep.shadowFrequency a.regs.nr10 ≤ 2047 ∧ a.sweepShift = 0#3 ∧ sweepCalculate a = a) ∨
    (∃ f : BitVec 11, f.toNat = sweepCalc a.sweep.shadowFrequency a.regs.nr10 ∧ a.sweepShift ≠ 0#3 ∧
      sweepCalculate a =
        if sweepCalc f a.regs.nr10 > 2047 then (sweepCommit f a).disable .ch1 else sweepCommit f a) := by
  unfold sweepCalculate
  dsimp only
  by_cases h : sweepCalc a.sweep.shadowFrequency (a.reg .nr10) > 2047
  · exact .inl ⟨h, if_pos h⟩
  · rw [if_neg h]
    by_cases h0 : a.sweepShift = 0#3
    · exact .inr (.inl ⟨Nat.not_lt.mp h, h0, if_neg (by simp [h0])⟩)
    · refine .inr (.inr ⟨BitVec.ofNat 11 (sweepCalc a.sweep.shadowFrequency (a.reg .nr10)), ?_, h0, ?_⟩)
      · rw [BitVec.toNat_ofNat]
        exact Nat.mod_eq_of_lt (by omega)
      · rw [if_pos h0]
        exact if_congr (sweepOverflow_iff _) rfl rfl

/-- The two ways the sweep's part of the trigger ends (R193). -/
theorem sweepTrigger_cases (a : Apu) :
    let b := a.setSweep ⟨a.pulseFrequency .ch1, sweepReload a.sweepPeriod, sweepArmed a.regs.nr10⟩
    (a.sweepShift ≠ 0#3 ∧ sweepCalc (a.pulseFrequency .ch1) a.regs.nr10 > 2047 ∧ sweepTrigger a = b.disable .ch1) ∨
    (¬(a.sweepShift ≠ 0#3 ∧ sweepCalc (a.pulseFrequency .ch1) a.regs.nr10 > 2047) ∧ sweepTrigger a = b) := by
  intro b
  by_cases h : a.sweepShift ≠ 0#3 ∧ sweepCalc (a.pulseFrequency .ch1) a.regs.nr10 > 2047
  · exact .inl ⟨h.1, h.2, if_pos ⟨h.1, decide_eq_true h.2⟩⟩
  · exact .inr ⟨h, if_neg fun hh => h ⟨hh.1, of_decide_eq_true hh.2⟩⟩

/-! ### The sampler -/

/-- A latch is due or it is not (46_mixer.md R318). -/
theorem sampleTick_due (c : Config) (a : Apu) (h : latchDue a.sampleTimer = true) :
    sampleTick c a =
      (a.setSampleTimer (nextSampleTimer a.sampleTimer)).setLatch
        (mix c .left (a.setSampleTimer (nextSampleTimer a.sampleTimer)))
        (mix c .right (a.setSampleTimer (nextSampleTimer a.sampleTimer))) := if_pos h

theorem sampleTick_notdue (c : Config) (a : Apu) (h : latchDue a.sampleTimer = false) :
    sampleTick c a = a.setSampleTimer (nextSampleTimer a.sampleTimer) := if_neg (by simp [h])

theorem clockCycle_sampleTimer (c : Config) (a : Apu) :
    (clockCycle c a).sampleTimer.toNat = (a.sampleTimer.toNat + 44100) % 4194304 := by
  have hs : ∀ b : Apu, (sampleTick c b).sampleTimer = nextSampleTimer b.sampleTimer := fun b => by
    cases h : latchDue b.sampleTimer
    · rw [sampleTick_notdue c b h]; simp
    · rw [sampleTick_due c b h]; simp
  rw [clockCycle, hs, nextSampleTimer_toNat]
  simp

/-- A channel's output is at most 15, a terminal's sum at most 60 (R315, R316). -/
theorem channelOutput_le (c : Config) (n : ChanId) (a : Apu) : (channelOutput c n a).toNat ≤ 15 := by
  have := (channelOutput c n a).isLt
  omega

theorem mixSum_le (c : Config) (t : Terminal) (a : Apu) : mixSum c t a ≤ 60 := by
  have h1 := channelOutput_le c .ch1 a
  have h2 := channelOutput_le c .ch2 a
  have h3 := channelOutput_le c .ch3 a
  have h4 := channelOutput_le c .ch4 a
  unfold mixSum routedOutput
  split_ifs <;> omega

end Sys2Proof.Machine
end

