-- ==== Sys2Proof/Laws/Configured.lean ====
section
/-! SUPPORT. `exec` and `step` are the configured machine at `Config.params`; what the configured machine can do. -/
namespace Sys2Proof.Machine

theorem execWith_params (i : Instr) (s : State) : execWith Config.params i s = exec i s := by cases i <;> rfl

theorem stepWith_params (s : State) : stepWith Config.params s = step s := by
  unfold stepWith step
  cases fetch s.trace <;> simp only [execWith_params]

/-- A configured step that goes on was idle, or ran the operation the next word decodes to. -/
theorem stepWith_next {c : Config} {s t : State} (h : stepWith c s = .next t) :
    c.model = .base ∧
      (fetch s.trace = .idle ∧ t = s ∨
        ∃ i rest, fetch s.trace = .issue i rest ∧ execWith c i { s with trace := rest } = .next t) := by
  have hm : refusedModel c.model = false := by
    by_contra hr
    rw [Bool.not_eq_false] at hr
    simp [stepWith, hr] at h
  refine ⟨by cases hc : c.model with | base => rfl | extended => simp [refusedModel, hc] at hm, ?_⟩
  rw [stepWith, hm] at h
  cases hf : fetch s.trace with
  | idle => rw [hf] at h; exact .inl ⟨rfl, by simpa using h.symm⟩
  | bad e => rw [hf] at h; simp at h
  | issue i rest => rw [hf] at h; exact .inr ⟨i, rest, rfl, h⟩

theorem refusedModel_of_base {m : Model} (h : m = .base) : refusedModel m = false := by rw [h]; rfl

/-- An operation that goes on runs under the base model. -/
theorem execWith_next {c : Config} {i : Instr} {s t : State} (h : execWith c i s = .next t) : c.model = .base := by
  cases hm : c.model with
  | base => rfl
  | extended => simp [execWith, refusedModel, hm] at h

/-- The extended model is refused, whatever the other parameters are. -/
theorem execWith_extended {c : Config} (h : c.model = .extended) (i : Instr) (s : State) :
    execWith c i s = .refused .modelExtended := by simp [execWith, refusedModel, h]

theorem stepWith_extended {c : Config} (h : c.model = .extended) (s : State) :
    stepWith c s = .refused .modelExtended := by simp [stepWith, refusedModel, h]

/-! ### The bounds of the parameters -/

theorem noiseDivisor_le_max (c : Config) (d : BitVec 3) : c.noiseDivisor d ≤ maxDivisor c := by
  have key : ∀ e : Fin 8, c.noiseDivisor (BitVec.ofNat 3 e) ≤ maxDivisor c := by
    simp [maxDivisor, List.range, List.range.loop, Fin.forall_fin_succ]
  simpa using key ⟨d.toNat, d.isLt⟩

theorem maxDivisor_le {c : Config} (h : c.Valid) : maxDivisor c ≤ 127 := by
  have h0 : ∀ d, c.noiseDivisor d ≤ 127 := fun d => (h.divisor d).2
  simp only [maxDivisor, List.range, List.range.loop, List.map, List.foldl, Nat.max_le]
  simp [h0]

/-- Every reload of CH4's timer is in the range of the invariant. -/
theorem noiseReload_le_max {c : Config} (h : c.Valid) (v : Byte) : (noiseReload c v).toNat ≤ maxDivisor c * 2 ^ 15 :=
  noiseReload_le (noiseDivisor_le_max c) (maxDivisor_le h) v

end Sys2Proof.Machine
end

