-- ==== Sys2Proof/Laws/Decode.lean ====
section
/-! SUPPORT. The fields of a trace word and the address decoder. -/
namespace Sys2Proof

/-- The bits of a trace word by field (R112). -/
theorem traceWord_getLsbD (k : BitVec 4) (a : Addr) (d : Byte) (i : Nat) :
    (traceWord k a d).getLsbD i =
      if i < 8 then d.getLsbD i
      else if i < 24 then a.getLsbD (i - 8)
      else if i < 28 then false
      else k.getLsbD (i - 28) := by
  refine (BitVec.getLsbD_append (x := k ++ 0#4 ++ a) (y := d)).trans ?_
  rw [BitVec.getLsbD_append, BitVec.getLsbD_append]
  by_cases h1 : i < 8
  · simp [h1]
  · by_cases h2 : i < 24
    · have : i - 8 < 16 := by omega
      simp [h1, h2, this]
    · have h3 : ¬i - 8 < 16 := by omega
      by_cases h4 : i < 28
      · have : i - 8 - 16 < 4 := by omega
        simp [h1, h2, h3, h4, this]
      · have h5 : ¬i - 8 - 16 < 4 := by omega
        have h6 : i - 8 - 16 - 4 = i - 28 := by omega
        simp [h1, h2, h3, h4, h5, h6]

@[simp] theorem kindOf_traceWord (k : BitVec 4) (a : Addr) (d : Byte) : kindOf (traceWord k a d) = k := by
  apply BitVec.eq_of_getLsbD_eq
  intro i hi
  have h1 : ¬28 + i < 8 := by omega
  have h2 : ¬28 + i < 24 := by omega
  have h3 : ¬28 + i < 28 := by omega
  have h4 : 28 + i - 28 = i := by omega
  simp only [kindOf, BitVec.getLsbD_extractLsb', traceWord_getLsbD, hi, h1, h2, h3, h4, decide_true, Bool.true_and,
    if_false]

@[simp] theorem zeroOf_traceWord (k : BitVec 4) (a : Addr) (d : Byte) : zeroOf (traceWord k a d) = 0 := by
  apply BitVec.eq_of_getLsbD_eq
  intro i hi
  have h1 : ¬24 + i < 8 := by omega
  have h2 : ¬24 + i < 24 := by omega
  have h3 : 24 + i < 28 := by omega
  simp [zeroOf, traceWord_getLsbD, h1, h3]

@[simp] theorem addrOf_traceWord (k : BitVec 4) (a : Addr) (d : Byte) : addrOf (traceWord k a d) = a := by
  apply BitVec.eq_of_getLsbD_eq
  intro i hi
  have h1 : ¬8 + i < 8 := by omega
  have h2 : 8 + i < 24 := by omega
  have h3 : 8 + i - 8 = i := by omega
  simp only [addrOf, BitVec.getLsbD_extractLsb', traceWord_getLsbD, hi, h1, h2, h3, decide_true, Bool.true_and,
    if_false, if_true]

@[simp] theorem dataOf_traceWord (k : BitVec 4) (a : Addr) (d : Byte) : dataOf (traceWord k a d) = d := by
  apply BitVec.eq_of_getLsbD_eq
  intro i hi
  simp only [dataOf, BitVec.getLsbD_extractLsb', traceWord_getLsbD, hi, decide_true, Bool.true_and, if_true,
    Nat.zero_add]

/-- A word whose `zero` field is 0 is made of its other fields. -/
theorem traceWord_fields {w : TraceWord} (h : zeroOf w = 0) : traceWord (kindOf w) (addrOf w) (dataOf w) = w := by
  have hz : ∀ i, i < 4 → w.getLsbD (24 + i) = false := fun i hi => by
    have := congrArg (fun x => x.getLsbD i) h
    simpa [zeroOf, hi] using this
  apply BitVec.eq_of_getLsbD_eq
  intro i hi
  rw [traceWord_getLsbD]
  split
  · next h1 => simp [dataOf, h1]
  · split
    · next h1 h2 =>
      have h3 : 8 + (i - 8) = i := by omega
      have h4 : i - 8 < 16 := by omega
      simp [addrOf, h3, h4]
    · split
      · next h1 h2 h3 =>
        have := hz (i - 24) (by omega)
        rwa [show 24 + (i - 24) = i by omega, eq_comm] at this
      · next h1 h2 h3 =>
        have h4 : 28 + (i - 28) = i := by omega
        have h5 : i - 28 < 4 := by omega
        simp [kindOf, h4, h5]

theorem targetOf_ctrl (x : CtrlReg) : targetOf x.addr = .ctrl x := by cases x <;> decide

theorem targetOf_nr52 : targetOf nr52Addr = .nr52 := by decide

theorem targetOf_wave (k : BitVec 4) : targetOf (waveAddr k) = .wave k := by revert k; decide

theorem targetOf_eq_ctrl {a : Addr} {x : CtrlReg} (h : targetOf a = .ctrl x) : a = x.addr := by
  unfold targetOf at h
  split at h
  · cases h
  · split at h
    · cases h
    · split at h
      · next y hy =>
        cases h
        have := List.find?_some hy
        exact (by simpa using this : x.addr = a).symm
      · cases h

theorem targetOf_eq_nr52 {a : Addr} (h : targetOf a = .nr52) : a = nr52Addr := by
  unfold targetOf at h
  split at h
  · cases h
  · split at h
    · assumption
    · split at h <;> cases h

theorem targetOf_eq_wave {a : Addr} {k : BitVec 4} (h : targetOf a = .wave k) : a = waveAddr k := by
  unfold targetOf at h
  split at h
  · next hw =>
    cases h
    apply BitVec.eq_of_getLsbD_eq
    intro i hi
    refine Eq.trans ?_ (BitVec.getLsbD_append (x := 0xFF3#12) (y := a.extractLsb' 0 4)).symm
    by_cases h1 : i < 4
    · simp [h1]
    · have := congrArg (fun x => x.getLsbD (i - 4)) hw
      have h2 : 4 + (i - 4) = i := by omega
      have h3 : i - 4 < 12 := by omega
      simp only [BitVec.getLsbD_extractLsb', h2, h3, decide_true, Bool.true_and] at this
      simp only [h1, if_false, this]
  · split at h
    · cases h
    · split at h <;> cases h

/-- The address 0xFF30 + k names wave RAM byte k. -/
theorem waveAddr_toNat (k : BitVec 4) : (waveAddr k).toNat = 0xFF30 + k.toNat := by revert k; decide

end Sys2Proof
end

