-- ==== Sys2Proof/Laws/PerInstr.lean ====
section
/-! SUPPORT. Statements about every operation as syntax, one lemma per constructor: its trace word matches its row of
opcode_table.json (30_encoding.md R113 to R115). -/
namespace Sys2Proof.Laws.EncodesRow

/-- The trace word of an operation matches the operation's row of the opcode table. -/
def Statement (i : Instr) : Prop := i.row.hit (encode i) = true

/-- A `WR` row of one register covers every data byte. -/
theorem hit_write {m : TraceWord} (k : BitVec 4) (a : Addr) (v : Byte) (h : traceWord k a 0 = m) :
    OpcodeRow.hit ⟨0xFFFFFF00, m⟩ (traceWord k a v) = true := by
  subst h
  refine beq_iff_eq.mpr (BitVec.eq_of_getLsbD_eq fun i hi => ?_)
  simp only [BitVec.getLsbD_and, traceWord_getLsbD]
  interval_cases i <;> simp

/-- The wave RAM row of `WR` covers every index and data byte. -/
theorem hit_write_wave (a : Addr) (v : Byte) (h : a.extractLsb' 4 12 = 0xFF3) :
    OpcodeRow.hit ⟨0xFFFFF000, 0x10FF3000⟩ (traceWord 1 a v) = true := by
  refine beq_iff_eq.mpr (BitVec.eq_of_getLsbD_eq fun i hi => ?_)
  have hb : ∀ j, j < 12 → a.getLsbD (4 + j) = (0xFF3#12).getLsbD j := fun j hj => by
    simpa [hj] using congrArg (fun x => x.getLsbD j) h
  have h0 := hb 0; have h1 := hb 1; have h2 := hb 2; have h3 := hb 3; have h4 := hb 4; have h5 := hb 5
  have h6 := hb 6; have h7 := hb 7; have h8 := hb 8; have h9 := hb 9; have h10 := hb 10; have h11 := hb 11
  simp only [BitVec.getLsbD_and, traceWord_getLsbD]
  interval_cases i <;> simp_all

/-- The unmapped rows cover every address and, for `WR`, every data byte. -/
theorem hit_write_unmapped (a : Addr) (v : Byte) :
    OpcodeRow.hit ⟨0xFF000000, 0x10000000⟩ (traceWord 1 a v) = true := by
  refine beq_iff_eq.mpr (BitVec.eq_of_getLsbD_eq fun i hi => ?_)
  simp only [BitVec.getLsbD_and, traceWord_getLsbD]
  interval_cases i <;> simp

theorem hit_read_unmapped (a : Addr) : OpcodeRow.hit ⟨0xFF0000FF, 0x20000000⟩ (traceWord 2 a 0) = true := by
  refine beq_iff_eq.mpr (BitVec.eq_of_getLsbD_eq fun i hi => ?_)
  simp only [BitVec.getLsbD_and, traceWord_getLsbD]
  interval_cases i <;> simp

/-- The top 12 bits of a wave RAM address. -/
theorem waveAddr_top (k : BitVec 4) : (waveAddr k).extractLsb' 4 12 = 0xFF3 := by revert k; decide

theorem step : Statement .step := rfl

theorem wrNr10 (v : Byte) : Statement (.wrNr10 v) := hit_write 1 _ v rfl

theorem wrNr11 (v : Byte) : Statement (.wrNr11 v) := hit_write 1 _ v rfl

theorem wrNr12 (v : Byte) : Statement (.wrNr12 v) := hit_write 1 _ v rfl

theorem wrNr13 (v : Byte) : Statement (.wrNr13 v) := hit_write 1 _ v rfl

theorem wrNr14 (v : Byte) : Statement (.wrNr14 v) := hit_write 1 _ v rfl

theorem wrNr21 (v : Byte) : Statement (.wrNr21 v) := hit_write 1 _ v rfl

theorem wrNr22 (v : Byte) : Statement (.wrNr22 v) := hit_write 1 _ v rfl

theorem wrNr23 (v : Byte) : Statement (.wrNr23 v) := hit_write 1 _ v rfl

theorem wrNr24 (v : Byte) : Statement (.wrNr24 v) := hit_write 1 _ v rfl

theorem wrNr30 (v : Byte) : Statement (.wrNr30 v) := hit_write 1 _ v rfl

theorem wrNr31 (v : Byte) : Statement (.wrNr31 v) := hit_write 1 _ v rfl

theorem wrNr32 (v : Byte) : Statement (.wrNr32 v) := hit_write 1 _ v rfl

theorem wrNr33 (v : Byte) : Statement (.wrNr33 v) := hit_write 1 _ v rfl

theorem wrNr34 (v : Byte) : Statement (.wrNr34 v) := hit_write 1 _ v rfl

theorem wrNr41 (v : Byte) : Statement (.wrNr41 v) := hit_write 1 _ v rfl

theorem wrNr42 (v : Byte) : Statement (.wrNr42 v) := hit_write 1 _ v rfl

theorem wrNr43 (v : Byte) : Statement (.wrNr43 v) := hit_write 1 _ v rfl

theorem wrNr44 (v : Byte) : Statement (.wrNr44 v) := hit_write 1 _ v rfl

theorem wrNr50 (v : Byte) : Statement (.wrNr50 v) := hit_write 1 _ v rfl

theorem wrNr51 (v : Byte) : Statement (.wrNr51 v) := hit_write 1 _ v rfl

theorem wrNr52 (v : Byte) : Statement (.wrNr52 v) := hit_write 1 _ v rfl

theorem wrWave (k : BitVec 4) (v : Byte) : Statement (.wrWave k v) := hit_write_wave _ v (waveAddr_top k)

theorem wrUnmapped (a : Addr) (v : Byte) : Statement (.wrUnmapped a v) := hit_write_unmapped a v

theorem rdNr10 : Statement .rdNr10 := rfl

theorem rdNr11 : Statement .rdNr11 := rfl

theorem rdNr12 : Statement .rdNr12 := rfl

theorem rdNr13 : Statement .rdNr13 := rfl

theorem rdNr14 : Statement .rdNr14 := rfl

theorem rdNr21 : Statement .rdNr21 := rfl

theorem rdNr22 : Statement .rdNr22 := rfl

theorem rdNr23 : Statement .rdNr23 := rfl

theorem rdNr24 : Statement .rdNr24 := rfl

theorem rdNr30 : Statement .rdNr30 := rfl

theorem rdNr31 : Statement .rdNr31 := rfl

theorem rdNr32 : Statement .rdNr32 := rfl

theorem rdNr33 : Statement .rdNr33 := rfl

theorem rdNr34 : Statement .rdNr34 := rfl

theorem rdNr41 : Statement .rdNr41 := rfl

theorem rdNr42 : Statement .rdNr42 := rfl

theorem rdNr43 : Statement .rdNr43 := rfl

theorem rdNr44 : Statement .rdNr44 := rfl

theorem rdNr50 : Statement .rdNr50 := rfl

theorem rdNr51 : Statement .rdNr51 := rfl

theorem rdNr52 : Statement .rdNr52 := rfl

theorem rdWave (k : BitVec 4) : Statement (.rdWave k) := by
  unfold Statement; revert k; decide

theorem rdUnmapped (a : Addr) : Statement (.rdUnmapped a) := hit_read_unmapped a

theorem sample : Statement .sample := rfl

theorem reset (b : Bool) : Statement (.reset b) := by cases b <;> rfl

end Sys2Proof.Laws.EncodesRow
end

