-- ==== Sys2Proof/Machine/Listing.lean ====
section
/-! DEFINITION. Listing syntax and pseudo-operations (30_encoding.md R140, R141; 00_scope.md R12). They are the spec's
notation: nothing the machine does depends on them. -/
namespace Sys2Proof.Machine

/-- The channels with a frequency, x = 1, 2, 3 of `FREQx`. -/
inductive FreqChan where
  | x1
  | x2
  | x3
  deriving DecidableEq, Repr

/-- The pseudo-operations (R141). -/
inductive Pseudo where
  /-- `STEP n` -/
  | steps (n : Nat)
  /-- `PWRON` -/
  | pwrOn
  /-- `PWROFF` -/
  | pwrOff
  /-- `FREQx f, c`; bits 2:0 of `c` are 0 -/
  | freq (x : FreqChan) (f : BitVec 11) (c : Byte)
  /-- `WAVE b0, ..., b15` -/
  | wave (bytes : Vector Byte 16)
  deriving DecidableEq, Repr

/-- The side condition of `FREQx`: bits 2:0 of `c` are 0. -/
def Pseudo.wf : Pseudo → Bool
  | .steps _ => true
  | .pwrOn => true
  | .pwrOff => true
  | .freq _ _ c => c.extractLsb' 0 3 == 0
  | .wave _ => true

/-- NRx3 of a channel with a frequency. -/
def FreqChan.nrx3 : FreqChan → CtrlReg
  | .x1 => .nr13
  | .x2 => .nr23
  | .x3 => .nr33

/-- NRx4 of a channel with a frequency. -/
def FreqChan.nrx4 : FreqChan → CtrlReg
  | .x1 => .nr14
  | .x2 => .nr24
  | .x3 => .nr34

/-- The operations a pseudo-operation stands for (R141). -/
def Pseudo.expand : Pseudo → List Instr
  | .steps n => List.replicate n .step
  | .pwrOn => [.wrNr52 0x80]
  | .pwrOff => [.wrNr52 0x00]
  | .freq x f c =>
    [Instr.ofWrite x.nrx3 (f.extractLsb' 0 8), Instr.ofWrite x.nrx4 (c ||| (f.extractLsb' 8 3).setWidth 8)]
  | .wave bytes => (List.finRange 16).map fun k => .wrWave (BitVec.ofFin k) bytes[k]

/-- One hexadecimal digit. -/
def hexDigit (n : Nat) : Char := if n < 10 then Char.ofNat (48 + n) else Char.ofNat (55 + n)

/-- A byte as `0xHH`. -/
def hexByte (v : Byte) : String :=
  "0x" ++ String.singleton (hexDigit (v.toNat / 16)) ++ String.singleton (hexDigit (v.toNat % 16))

/-- An address as `0xHHHH`. -/
def hexAddr (a : Addr) : String := hexByte (a.extractLsb' 8 8) ++ (hexByte (a.extractLsb' 0 8)).drop 2

/-- The name of a control register. -/
def CtrlReg.name : CtrlReg → String
  | .nr10 => "NR10"
  | .nr11 => "NR11"
  | .nr12 => "NR12"
  | .nr13 => "NR13"
  | .nr14 => "NR14"
  | .nr21 => "NR21"
  | .nr22 => "NR22"
  | .nr23 => "NR23"
  | .nr24 => "NR24"
  | .nr30 => "NR30"
  | .nr31 => "NR31"
  | .nr32 => "NR32"
  | .nr33 => "NR33"
  | .nr34 => "NR34"
  | .nr41 => "NR41"
  | .nr42 => "NR42"
  | .nr43 => "NR43"
  | .nr44 => "NR44"
  | .nr50 => "NR50"
  | .nr51 => "NR51"

/-- The name a listing gives an address (R140). -/
def addrName (a : Addr) : String :=
  match targetOf a with
  | .ctrl x => CtrlReg.name x
  | .nr52 => "NR52"
  | .wave k => "WAVE[" ++ toString k.toNat ++ "]"
  | .unmapped => hexAddr a

/-- An operation as a line of a listing (R140), read off its trace word's fields. -/
def listing (i : Instr) : String :=
  let w := encode i
  if kindOf w = 1 then "WR " ++ addrName (addrOf w) ++ ", " ++ hexByte (dataOf w)
  else if kindOf w = 2 then "RD " ++ addrName (addrOf w)
  else if kindOf w = 3 then "SAMPLE"
  else if kindOf w = 4 then "RESET " ++ toString (dataOf w).toNat
  else "STEP"

end Sys2Proof.Machine
end

