-- ==== Sys2Proof/Tests/Slice0.lean ====
section
/-! SUPPORT. The model's own tests. The expected values are the spec's: the encodings of 30_encoding.md and
20_memory.md, the examples of the rules, and the vectors of 95_test_vectors.md (V<n>). Then, for every statement with
hypotheses, a concrete state and operands that meet them together. -/
namespace Sys2Proof.Tests
open Sys2Proof.Machine Sys2Proof.Claims

/-! ### Small states -/

/-- The reset state with the power on. -/
def on : State := { State.reset with apu := { Apu.reset with masterPower := true } }

/-- `on` with other stored bytes. -/
def onRegs (f : RegFile → RegFile) : State := { on with apu := { on.apu with regs := f on.apu.regs } }

/-- The block after one operation. -/
def after (i : Instr) (s : State) : Apu :=
  match exec i s with
  | .next t => t.apu
  | .fault _ => s.apu
  | .refused _ => s.apu

/-- The newest answer after one operation. -/
def answer (i : Instr) (s : State) : Option Answer :=
  match exec i s with
  | .next t => t.answers.head?
  | .fault _ => none
  | .refused _ => none

/-- A `STEP` of this state is the 8192nd of frame-sequencer step `n`. -/
def due (n : BitVec 3) (s : State) : State := { s with apu := { s.apu with fs := ⟨1, n⟩ } }

/-! ### WellFormed: the two checks refuse an ill-formed term (opcode_table.json, rows matched last) -/

theorem test_wf_wrUnmapped : Instr.wf (.wrUnmapped 0xFF15 0x00) = true ∧ Instr.wf (.wrUnmapped 0xFF12 0x00) = false ∧
    Instr.wf (.wrUnmapped 0xFF26 0x00) = false ∧ Instr.wf (.wrUnmapped 0xFF3F 0x00) = false := by decide

theorem test_wf_rdUnmapped : Instr.wf (.rdUnmapped 0xFF1F) = true ∧ Instr.wf (.rdUnmapped 0xFF30) = false ∧
    Instr.wf (.rdUnmapped 0xFF26) = false ∧ Instr.wf (.rdUnmapped 0xFF25) = false := by decide

/-! ### Decoding: one word of every operation, written out from R112 to R115 and the addresses of 20_memory.md R82 -/

theorem test_decode_ctl : decode 0x00000000 = .ok .step ∧ decode 0x30000000 = .ok .sample ∧
    decode 0x40000000 = .ok (.reset false) ∧ decode 0x40000001 = .ok (.reset true) := by decide

theorem test_decode_wr_pulse : decode 0x10FF1022 = .ok (.wrNr10 0x22) ∧ decode 0x10FF1180 = .ok (.wrNr11 0x80) ∧
    decode 0x10FF12F3 = .ok (.wrNr12 0xF3) ∧ decode 0x10FF13D6 = .ok (.wrNr13 0xD6) ∧
    decode 0x10FF1486 = .ok (.wrNr14 0x86) ∧ decode 0x10FF163D = .ok (.wrNr21 0x3D) ∧
    decode 0x10FF17A0 = .ok (.wrNr22 0xA0) ∧ decode 0x10FF18D6 = .ok (.wrNr23 0xD6) ∧
    decode 0x10FF19C0 = .ok (.wrNr24 0xC0) := by decide

theorem test_decode_wr_wave : decode 0x10FF1A80 = .ok (.wrNr30 0x80) ∧ decode 0x10FF1BFF = .ok (.wrNr31 0xFF) ∧
    decode 0x10FF1C20 = .ok (.wrNr32 0x20) ∧ decode 0x10FF1DFF = .ok (.wrNr33 0xFF) ∧
    decode 0x10FF1E87 = .ok (.wrNr34 0x87) ∧ decode 0x10FF3245 = .ok (.wrWave 2 0x45) ∧
    decode 0x10FF3F5A = .ok (.wrWave 15 0x5A) := by decide

theorem test_decode_wr_noise : decode 0x10FF203E = .ok (.wrNr41 0x3E) ∧ decode 0x10FF21F0 = .ok (.wrNr42 0xF0) ∧
    decode 0x10FF22F7 = .ok (.wrNr43 0xF7) ∧ decode 0x10FF23C0 = .ok (.wrNr44 0xC0) := by decide

theorem test_decode_wr_rest : decode 0x10FF2477 = .ok (.wrNr50 0x77) ∧ decode 0x10FF2511 = .ok (.wrNr51 0x11) ∧
    decode 0x10FF2680 = .ok (.wrNr52 0x80) ∧ decode 0x10FF1555 = .ok (.wrUnmapped 0xFF15 0x55) ∧
    decode 0x10123455 = .ok (.wrUnmapped 0x1234 0x55) := by decide

theorem test_decode_rd_pulse : decode 0x20FF1000 = .ok .rdNr10 ∧ decode 0x20FF1100 = .ok .rdNr11 ∧
    decode 0x20FF1200 = .ok .rdNr12 ∧ decode 0x20FF1300 = .ok .rdNr13 ∧ decode 0x20FF1400 = .ok .rdNr14 ∧
    decode 0x20FF1600 = .ok .rdNr21 ∧ decode 0x20FF1700 = .ok .rdNr22 ∧ decode 0x20FF1800 = .ok .rdNr23 ∧
    decode 0x20FF1900 = .ok .rdNr24 := by decide

theorem test_decode_rd_rest : decode 0x20FF1A00 = .ok .rdNr30 ∧ decode 0x20FF1B00 = .ok .rdNr31 ∧
    decode 0x20FF1C00 = .ok .rdNr32 ∧ decode 0x20FF1D00 = .ok .rdNr33 ∧ decode 0x20FF1E00 = .ok .rdNr34 ∧
    decode 0x20FF2000 = .ok .rdNr41 ∧ decode 0x20FF2100 = .ok .rdNr42 ∧ decode 0x20FF2200 = .ok .rdNr43 ∧
    decode 0x20FF2300 = .ok .rdNr44 := by decide

theorem test_decode_rd_last : decode 0x20FF2400 = .ok .rdNr50 ∧ decode 0x20FF2500 = .ok .rdNr51 ∧
    decode 0x20FF2600 = .ok .rdNr52 ∧ decode 0x20FF3000 = .ok (.rdWave 0) ∧ decode 0x20FF3F00 = .ok (.rdWave 15) ∧
    decode 0x20FF2F00 = .ok (.rdUnmapped 0xFF2F) ∧ decode 0x20000000 = .ok (.rdUnmapped 0x0000) := by decide

/-- Words R130 names. -/
theorem test_decode_refused : decode 0x50000000 = .error .reservedKind ∧ decode 0xF0000000 = .error .reservedKind ∧
    decode 0x01000000 = .error .zeroFieldNotZero ∧ decode 0x00000100 = .error .addrMustBeZero ∧
    decode 0x40000002 = .error .dataMustBeZero ∧ decode 0x20FF2601 = .error .dataMustBeZero ∧
    decode 0x30000001 = .error .dataMustBeZero := by decide

/-- The words of R113 to R115 come back out of the encoder. -/
theorem test_encode : encode (.reset true) = 0x40000001 ∧ encode (.wrNr12 0xF3) = 0x10FF12F3 ∧
    encode .rdNr52 = 0x20FF2600 ∧ encode (.wrWave 15 0x5A) = 0x10FF3F5A := by decide

theorem test_decodeTableWord : decodeTableWord 32 0x10FF1022 = some (.wrNr10 0x22) ∧
    decodeTableWord 32 0x20FF2600 = some .rdNr52 ∧ decodeTableWord 32 0x50000000 = none := by decide

/-- A listing line (R140) and two pseudo-operations (R141). -/
theorem test_listing : Pseudo.expand .pwrOn = [.wrNr52 0x80] ∧
    Pseudo.expand (.freq .x2 0x6D6 0x80) = [.wrNr23 0xD6, .wrNr24 0x86] := by decide

/-! ### The step on the word placed first -/

theorem test_step_runs_placed_word :
    step (State.reset.withFetchWord 32 0x10FF2680) = .next { State.reset with apu := on.apu } := rfl

theorem test_step_idle : step State.reset = .next State.reset := rfl

theorem test_step_refuses : step (State.reset.withFetchWord 32 0x50000000) = .refused (.badTraceWord .reservedKind) := rfl

/-! ### STEP -/

/-- V3: `RESET 1; STEP`. -/
theorem test_step_after_reset :
    (after .step State.reset).ch1 = ⟨false, 8192, 0, 1, 0, 0⟩ ∧ (after .step State.reset).ch2 = ⟨false, 8192, 0, 1, 0, 0⟩ ∧
    (after .step State.reset).ch3 = ⟨false, 4096, 0, 1⟩ ∧ (after .step State.reset).ch4 = ⟨false, 8, 0, 0, 0, 0⟩ ∧
    (after .step State.reset).fs = ⟨8191, 0⟩ ∧ (after .step State.reset).sampleTimer = 44100 := by decide

/-- V16 (length, step 0), V18 0xD2 (envelope, step 7, second clock), V21 clock 2 and V23 clock 1 (sweep, step 2). -/
theorem test_step_fires :
    (let t := after .step (due 0 { on with apu := { on.apu with
        regs := { RegFile.zero with nr22 := 0xF0, nr24 := 0xC0 }
        ch2 := ⟨true, 100, 1, 0, 15, 0⟩ } });
      t.ch2.enabled = false ∧ t.ch2.lengthCounter = 0 ∧ t.fs = ⟨8192, 1⟩) ∧
    (let t := after .step (due 7 { on with apu := { on.apu with
        regs := { RegFile.zero with nr12 := 0xD2 }
        ch1 := ⟨true, 100, 64, 0, 13, 1⟩ } });
      t.ch1.currentVolume = 12 ∧ t.ch1.envTimer = 2 ∧ t.fs = ⟨8192, 0⟩) ∧
    (let t := after .step (due 2 { on with apu := { on.apu with
        regs := { RegFile.zero with nr10 := 0x22, nr12 := 0xF0, nr13 := 0x00, nr14 := 0x81 }
        ch1 := ⟨true, 100, 64, 0, 15, 0⟩
        sweep := ⟨256, 1, true⟩ } });
      t.sweep = ⟨320, 2, true⟩ ∧ t.regs.nr13 = 0x40 ∧ t.regs.nr14 = 0x81 ∧ t.ch1.enabled = true) ∧
    (let t := after .step (due 2 { on with apu := { on.apu with
        regs := { RegFile.zero with nr10 := 0x17, nr12 := 0xF0, nr13 := 0xF0, nr14 := 0x87 }
        ch1 := ⟨true, 100, 64, 0, 15, 0⟩
        sweep := ⟨2032, 1, true⟩ } });
      t.sweep.shadowFrequency = 2047 ∧ t.ch1.enabled = false) := by decide

/-! ### WR to the control registers -/

/-- V27: a sweep byte written while CH1 plays is only stored. -/
theorem test_wrNr10 : after (.wrNr10 0x11) (onRegs fun r => { r with nr10 := 0x10 }) =
    (onRegs fun r => { r with nr10 := 0x11 }).apu := by decide

/-- V17's formula on CH1: 64 - 1. -/
theorem test_wrNr11 : (after (.wrNr11 0xC1) on).ch1.lengthCounter = 63 ∧ (after (.wrNr11 0xC1) on).regs.nr11 = 0xC1 := by
  decide

/-- V20: `WR NR12, 0x07` disables, and the volume stays. -/
theorem test_wrNr12 : (after (.wrNr12 0x07) { on with apu := { on.apu with ch1 := ⟨true, 1, 1, 0, 15, 0⟩ } }).ch1 =
    ⟨false, 1, 1, 0, 15, 0⟩ := by decide

/-- V12 on CH1: no reload. -/
theorem test_wrNr13 : (after (.wrNr13 0x00) { on with apu := { on.apu with ch1 := ⟨true, 1092, 1, 0, 15, 0⟩ } }).ch1 =
    ⟨true, 1092, 1, 0, 15, 0⟩ := by decide

/-- V22: the overflow on the trigger, adding. -/
theorem test_wrNr14_overflow :
    (let t := after (.wrNr14 0x87) (onRegs fun r => { r with nr10 := 0x11, nr12 := 0xF0, nr13 := 0xFF });
      t.ch1.enabled = false ∧ t.sweep = ⟨2047, 1, true⟩) := by decide

/-- V22: no overflow, subtracting. -/
theorem test_wrNr14_subtract :
    (let t := after (.wrNr14 0x87) (onRegs fun r => { r with nr10 := 0x19, nr12 := 0xF0, nr13 := 0xFF });
      t.ch1 = ⟨true, 4, 64, 0, 15, 0⟩) := by decide

/-- V17. -/
theorem test_wrNr21 : (after (.wrNr21 0x3F) on).ch2.lengthCounter = 1 ∧ (after (.wrNr21 0x00) on).ch2.lengthCounter = 64 := by
  decide

/-- R172: 0x08 keeps the DAC on through bit 3. -/
theorem test_wrNr22 : (after (.wrNr22 0x08) { on with apu := { on.apu with ch2 := ⟨true, 1, 1, 0, 9, 0⟩ } }).ch2 =
    ⟨true, 1, 1, 0, 9, 0⟩ := by decide

/-- V12. -/
theorem test_wrNr23 : (after (.wrNr23 0x00) { on with apu := { on.apu with ch2 := ⟨true, 1092, 1, 0, 10, 0⟩ } }).ch2 =
    ⟨true, 1092, 1, 0, 10, 0⟩ := by decide

/-- V13: the trigger reloads the timer and keeps `dutyStep`. -/
theorem test_wrNr24_trigger :
    (after (.wrNr24 0x86) { on with
      apu := { on.apu with regs := { RegFile.zero with nr22 := 0xA0, nr23 := 0xD6 }, ch2 := ⟨true, 7, 3, 5, 2, 0⟩ } }).ch2 =
    ⟨true, 1192, 3, 5, 10, 0⟩ := by decide

/-- V15: the counter found at 0 is reloaded with 64. -/
theorem test_wrNr24_length :
    (after (.wrNr24 0xC0) (onRegs fun r => { r with nr22 := 0xF0 })).ch2.lengthCounter = 64 := by decide

/-- V20: NR30 = 0x00 disables, NR30 = 0x80 does not enable. -/
theorem test_wrNr30 :
    (after (.wrNr30 0x00) { on with apu := { on.apu with ch3 := ⟨true, 1, 1, 0⟩ } }).ch3.enabled = false ∧
    (after (.wrNr30 0x80) on).ch3.enabled = false := by decide

/-- V17. -/
theorem test_wrNr31 : (after (.wrNr31 0xFF) on).ch3.lengthCounter = 1 ∧ (after (.wrNr31 0x40) on).ch3.lengthCounter = 64 := by
  decide

/-- V30: the level code is read live; position 5 of byte 2 = 0x45. -/
theorem test_wrNr32 :
    (let s : State := { on with apu := { on.apu with
        regs := { RegFile.zero with nr30 := 0x80 }, waveRam := [(0xFF32, 0x45)], ch3 := ⟨true, 9, 1, 5⟩ } };
      waveOutput (after (.wrNr32 0x00) s) = 0 ∧ waveOutput (after (.wrNr32 0x20) s) = 5 ∧
      waveOutput (after (.wrNr32 0x40) s) = 2 ∧ waveOutput (after (.wrNr32 0x60) s) = 1) := by decide

/-- R214: no reload. -/
theorem test_wrNr33 : (after (.wrNr33 0xFF) { on with apu := { on.apu with ch3 := ⟨true, 77, 1, 3⟩ } }).ch3 =
    ⟨true, 77, 1, 3⟩ := by decide

/-- V31: the reload values and the position. -/
theorem test_wrNr34 :
    (after (.wrNr34 0x87) (onRegs fun r => { r with nr30 := 0x80, nr33 := 0xFF })).ch3 = ⟨true, 2, 64, 0⟩ ∧
    (after (.wrNr34 0x80) (onRegs fun r => { r with nr30 := 0x80 })).ch3 = ⟨true, 4096, 64, 0⟩ := by decide

/-- V17. -/
theorem test_wrNr41 : (after (.wrNr41 0x3E) on).ch4.lengthCounter = 2 := by decide

/-- R237: bits 7:3 all 0 disable CH4. -/
theorem test_wrNr42 :
    (after (.wrNr42 0x07) { on with apu := { on.apu with ch4 := ⟨true, 8, 1, 15, 0, 0x7FFF⟩ } }).ch4.enabled = false := by
  decide

/-- R238: only the store. -/
theorem test_wrNr43 : after (.wrNr43 0xF7) on = (onRegs fun r => { r with nr43 := 0xF7 }).apu := by decide

/-- V35: the largest reload value; R247: the LFSR of all ones. -/
theorem test_wrNr44 :
    (after (.wrNr44 0x80) (onRegs fun r => { r with nr42 := 0xF0, nr43 := 0xF7 })).ch4 =
      ⟨true, 3670016, 64, 15, 0, 0x7FFF⟩ := by decide

/-- R316's example: only CH1 audible with output 15, NR51 = 0xF3, NR50 = 0x77 mixes to (63, 63). -/
theorem test_wrNr50 :
    (let t := after (.wrNr50 0x77) { on with apu := { on.apu with
        regs := { RegFile.zero with nr11 := 0xBF, nr12 := 0xF3, nr51 := 0xF3 }, ch1 := ⟨true, 4, 1, 0, 15, 3⟩ } };
      mix Config.params .left t = 63 ∧ mix Config.params .right t = 63) := by decide

/-- R312's example: 0x22 routes CH2 alone to both. -/
theorem test_wrNr51 : ∀ n, routedOf .left n (after (.wrNr51 0x22) on).regs.nr51 = decide (n = .ch2) ∧
    routedOf .right n (after (.wrNr51 0x22) on).regs.nr51 = decide (n = .ch2) := by
  intro n; cases n <;> decide

/-- V45 and V42: 0xFF only turns the power on; a power-off keeps the frame sequencer and wave RAM. -/
theorem test_wrNr52 :
    after (.wrNr52 0xFF) State.reset = on.apu ∧
    (let s : State := { on with apu := { on.apu with
        regs := { RegFile.zero with nr12 := 0xF0 }, waveRam := [(0xFF30, 0xAB)], ch1 := ⟨true, 4, 1, 2, 15, 3⟩
        fs := ⟨7992, 0⟩, sampleTimer := 5, left := 63 } };
      after (.wrNr52 0x7F) s = { Apu.reset with waveRam := [(0xFF30, 0xAB)], fs := ⟨7992, 0⟩, sampleTimer := 5, left := 63 }) := by
  decide

/-- V32, with the power off; writing 0x00 removes the entry. -/
theorem test_wrWave : (after (.wrWave 15 0x5A) State.reset).waveRam = [(0xFF3F, 0x5A)] ∧
    (after (.wrWave 15 0x00) { on with apu := { on.apu with waveRam := [(0xFF3F, 0x5A)] } }).waveRam = [] := by decide

/-- V47. -/
theorem test_wrUnmapped : after (.wrUnmapped 0x1234 0x55) on = on.apu := by decide

/-! ### RD, SAMPLE, RESET -/

/-- V46: after 0x00 everywhere the reads are the bare masks. -/
theorem test_reads_of_zero :
    answer .rdNr10 on = some (.byte 0x80) ∧ answer .rdNr11 on = some (.byte 0x3F) ∧ answer .rdNr12 on = some (.byte 0x00) ∧
    answer .rdNr13 on = some (.byte 0xFF) ∧ answer .rdNr14 on = some (.byte 0xBF) ∧ answer .rdNr21 on = some (.byte 0x3F) ∧
    answer .rdNr22 on = some (.byte 0x00) ∧ answer .rdNr23 on = some (.byte 0xFF) ∧ answer .rdNr24 on = some (.byte 0xBF) ∧
    answer .rdNr30 on = some (.byte 0x7F) ∧ answer .rdNr31 on = some (.byte 0xFF) ∧ answer .rdNr32 on = some (.byte 0x9F) ∧
    answer .rdNr33 on = some (.byte 0xFF) ∧ answer .rdNr34 on = some (.byte 0xBF) ∧ answer .rdNr41 on = some (.byte 0xFF) ∧
    answer .rdNr42 on = some (.byte 0x00) ∧ answer .rdNr43 on = some (.byte 0x00) ∧ answer .rdNr44 on = some (.byte 0xBF) ∧
    answer .rdNr50 on = some (.byte 0x00) ∧ answer .rdNr51 on = some (.byte 0x00) := by decide

/-- R313, R314, R178: stored values read back through their masks. -/
theorem test_reads_of_values :
    answer .rdNr50 (onRegs fun r => { r with nr50 := 0x77 }) = some (.byte 0x77) ∧
    answer .rdNr51 (onRegs fun r => { r with nr51 := 0xF3 }) = some (.byte 0xF3) ∧
    answer .rdNr14 (onRegs fun r => { r with nr14 := 0x40 }) = some (.byte 0xFF) := by decide

/-- V2: the same registers with the power off, and NR52. -/
theorem test_reads_power_off : answer .rdNr13 State.reset = some (.byte 0x00) ∧
    answer .rdNr10 State.reset = some (.byte 0x00) ∧ answer .rdNr52 State.reset = some (.byte 0x70) := by decide

/-- V14: NR52 with CH2 enabled. -/
theorem test_rdNr52 : answer .rdNr52 { on with apu := { on.apu with ch2 := ⟨true, 1, 3, 0, 15, 0⟩ } } = some (.byte 0xF2) := by
  decide

/-- V32, with the power off. -/
theorem test_rdWave :
    (let s : State := { State.reset with apu := { Apu.reset with waveRam := [(0xFF3F, 0x5A)] } };
      answer (.rdWave 15) s = some (.byte 0x5A) ∧ answer (.rdWave 0) s = some (.byte 0x00)) := by decide

/-- V47. -/
theorem test_rdUnmapped : answer (.rdUnmapped 0xFF15) on = some (.byte 0xFF) ∧
    answer (.rdUnmapped 0x1234) State.reset = some (.byte 0xFF) := by decide

/-- R320: the latched pair. -/
theorem test_sample : answer .sample { on with apu := { on.apu with left := 63, right := 7 } } = some (.pair 63 7) := by decide

/-- V1's internal state, and V4: wave RAM is cleared. -/
theorem test_reset_without_boot_rom :
    (let t := after (.reset false) { on with apu := { on.apu with waveRam := [(0xFF30, 0xAB)] } };
      t.ch1 = ⟨true, 4, 1, 0, 15, 3⟩ ∧ t.ch2 = ⟨false, 4, 1, 0, 0, 0⟩ ∧ t.ch3 = ⟨false, 2, 1, 0⟩ ∧
      t.ch4 = ⟨false, 8, 1, 0, 0, 0x7FFF⟩ ∧ t.sweep = ⟨2047, 8, false⟩ ∧ t.fs = ⟨8192, 0⟩ ∧ t.waveRam = [] ∧
      mix Config.params .left t = 63 ∧ mix Config.params .right t = 63) := by decide

/-- V2. -/
theorem test_reset_with_boot_rom : after (.reset true) on = Apu.reset := by decide

/-! ### Shared rules -/

/-- V33 and V34: the first shifts in 15-bit mode and the 7th and 8th in 7-bit mode. -/
theorem test_lfsr : lfsrShift false 0x7FFF = 0x3FFF ∧ lfsrShift false 0x0001 = 0x4000 ∧ lfsrShift true 0x7FFF = 0x3FBF ∧
    lfsrShift true 0x0181 = 0x40C0 ∧ lfsrShift true 0x40C0 = 0x2020 := by decide

/-- V26 and V21: sweep calculations; V22's 2055. -/
theorem test_sweepCalc : sweepCalc 1024 0x03 = 1152 ∧ sweepCalc 256 0x22 = 320 ∧ sweepCalc 2040 0x17 = 2055 ∧
    sweepCalc 2047 0x19 = 1024 := by decide

/-- V35: noise reload values. -/
theorem test_noiseReload : noiseReload Config.params 0x17 = 224 ∧ noiseReload Config.params 0x34 = 512 ∧
    noiseReload Config.params 0xD7 = 917504 ∧ noiseReload Config.params 0xE0 = 131072 := by decide

/-! ### Witnesses: what the hypotheses of each statement ask for, met together -/

/-- CH2 playing, as V10 with pattern 2: frequency 2047, reload 4. -/
def playing : Apu := { on.apu with
  regs := { RegFile.zero with nr21 := 0x80, nr22 := 0xF0, nr23 := 0xFF, nr24 := 0x87, nr33 := 0xFF, nr34 := 0x87 }
  ch2 := ⟨true, 4, 64, 0, 15, 0⟩
  ch3 := ⟨false, 2, 64, 0⟩ }

theorem witness_DecodeOfEncodeIsIdentity : Instr.wf (.rdUnmapped 0xFF40) = true ∧ Instr.wf (.wrWave 15 0xFF) = true := by
  decide
theorem witness_EncodeOfDecodeIsIdentity : decode 0x40000001 = .ok (.reset true) := by decide
theorem witness_StepRunsDecodedOperation :
    (State.reset.withFetchWord 32 0x30000000).trace = 0x30000000 :: [] ∧ decode 0x30000000 = .ok .sample := by decide
theorem witness_StepWithoutAnOperation : State.reset.trace = [] ∧
    (State.reset.withFetchWord 32 0x02000000).trace = 0x02000000 :: [] ∧
    decode 0x02000000 = .error .zeroFieldNotZero := by decide
theorem witness_LegalRunsNeverStop : legalTrace (State.reset.withFetchWord 32 0x10FF2680).trace = true := by decide
theorem witness_AcceptedWriteStoresWholeByte : on.apu.masterPower = true ∧ owner .nr50 ≠ some .ch1 ∧
    owner .nr14 ≠ some .ch2 ∧ owner .nr14 ≠ some .ch3 ∧ owner .nr34 ≠ some .ch4 := by decide
theorem witness_PowerGateIgnoresWrites : State.reset.apu.masterPower = false ∧ (0x80 : Byte).getLsbD 7 = true := by decide
/-- For StoreOnlyRegisters, LengthLoadRegisters, EnvelopeRegistersClearEnabled, WaveDacRegisterClearsEnabled,
Ch2TriggerRegister, WaveTriggerRegister, NoiseTriggerRegister, PulseRegisterReads and WaveNoiseRegisterReads, whose one
hypothesis on the state this is. -/
theorem witness_powerOn : on.apu.masterPower = true := rfl
theorem witness_Ch1TriggerRegister : on.apu.masterPower = true ∧ (0x7F : Byte).toNat / 128 = 0 ∧
    (0x87 : Byte).toNat / 128 ≠ 0 ∧ swept (frequency 0xFF 0x87) 0x11 > 2047 ∧ (0x11 : Byte).toNat % 8 ≠ 0 ∧
    swept (frequency 0xF0 0x87) 0x17 = 2047 ∧ period 0x11 = 1 ∧ period 0x01 = 0 := by decide
theorem witness_TriggerReactivatesChannel : on.apu.masterPower = true ∧ (0x87 : Byte).toNat / 128 = 1 ∧
    (onRegs fun r => { r with nr10 := 0x10 }).apu.regs.nr10.toNat % 8 = 0 ∧
    swept (frequency 0xF0 0x87) 0x17 ≤ 2047 := by decide
theorem witness_PowerOnSetsOnlyPower : (0x80 : Byte).getLsbD 7 = true := by decide
theorem witness_PowerOffClearsChannels : (0x7F : Byte).getLsbD 7 = false := by decide
theorem witness_PoweredOffRegisterFile : (0x00 : Byte).getLsbD 7 = false ∧ (0xFF : Byte).getLsbD 7 = true := by decide
theorem witness_WaveRamWrite : Memory.wf [(0xFF30, 0x01), (0xFF3F, 0x5A)] = true ∧ 0xFF31 ≠ 0xFF30 + (0 : BitVec 4).toNat := by
  decide
theorem witness_UnmappedAccesses : isUnmapped 0xFF0F = true ∧ isUnmapped 0xFF10 = false ∧ isUnmapped 0xFF26 = false ∧
    isUnmapped 0xFF27 = true ∧ isUnmapped 0xFF2F = true ∧ isUnmapped 0xFF30 = false ∧ isUnmapped 0xFF3F = false ∧
    isUnmapped 0xFF40 = true ∧ isUnmapped 0xFF15 = true ∧ isUnmapped 0xFF1F = true := by decide
theorem witness_ReadsAreZeroWithPowerOff : State.reset.apu.masterPower = false := rfl
theorem witness_reset_inv : State.reset.apu.Inv := ⟨by decide, by decide, fun _ => by decide, rfl⟩
theorem witness_StatusRegisterRead : State.reset.apu.Inv ∧ State.reset.apu.masterPower = false := ⟨witness_reset_inv, rfl⟩
theorem witness_FrameSequencerInStep : 1 ≤ (due 0 on).apu.fs.counter.toNat ∧ (due 0 on).apu.fs.counter.toNat = 1 ∧
    1 ≤ on.apu.fs.counter.toNat ∧ on.apu.fs.counter.toNat ≠ 1 := by decide
/-- Both branches of PulseTimersInStep, WaveTimerInStep and NoiseTimerInStep. -/
theorem witness_timers_expire_and_count :
    (State.reset.apu.pulse .ch1).frequencyTimer.toNat ≤ 1 ∧ ¬(playing.pulse .ch2).frequencyTimer.toNat ≤ 1 ∧
    State.reset.apu.ch3.frequencyTimer.toNat ≤ 1 ∧ ¬playing.ch3.frequencyTimer.toNat ≤ 1 ∧
    State.reset.apu.ch4.frequencyTimer.toNat ≤ 1 ∧ ¬(2#22).toNat ≤ 1 := by decide
theorem witness_StepFrame : CtrlReg.nr12 ≠ .nr13 ∧ CtrlReg.nr12 ≠ .nr14 ∧ playing.enabled .ch2 = true := by decide
theorem witness_ResetReadsBackDefaults : (CtrlReg.nr10, (0x80 : Byte)) ∈ [(CtrlReg.nr10, (0x80 : Byte))] := by decide
theorem witness_LengthClockInStep :
    (let a : Apu := (due 6 { on with apu := { playing with regs := { playing.regs with nr24 := 0xC7 } } }).apu;
      frameDue a ∧ a.fs.step.toNat % 2 = 0 ∧ a.lengthEnable .ch2 = true ∧ ChanId.ch2 ≠ .ch1) ∧ ¬frameDue playing := by decide
theorem witness_EnvelopeClockInStep :
    (let a : Apu := (due 7 { on with apu := { playing with regs := { playing.regs with nr22 := 0xF7 } } }).apu;
      frameDue a ∧ a.fs.step = 7#3 ∧ (envByte .ch2 a).toNat % 8 ≠ 0 ∧ envTimer .ch2 a ≤ 1) ∧
    (envByte .ch2 playing).toNat % 8 = 0 := by decide
theorem witness_SweepClockInStep :
    (let s : State := due 6 { on with apu := { on.apu with
        regs := { RegFile.zero with nr10 := 0x17 }, sweep := ⟨2032, 1, true⟩ } };
      frameDue s.apu ∧ s.apu.fs.step = 6#3 ∧ s.apu.sweep.sweepTimer.toNat ≤ 1 ∧ period s.apu.regs.nr10 ≠ 0 ∧
      s.apu.sweep.sweepEnabled = true ∧ swept s.apu.sweep.shadowFrequency.toNat s.apu.regs.nr10 = 2047 ∧
      s.apu.regs.nr10.toNat % 8 ≠ 0) ∧ ¬frameDue on.apu := by decide
theorem witness_SamplerInStep : 4194304 ≤ (4150204#22).toNat + 44100 ∧ (4150203#22).toNat + 44100 < 4194304 := by
  constructor
  · exact Nat.le_of_ble_eq_true rfl
  · exact Nat.le_of_ble_eq_true rfl
theorem witness_ChannelOutputs : playing.audible .ch1 = false ∧ playing.audible (PulseId.ch2).chan = true ∧
    ({ playing with regs := { playing.regs with nr30 := 0x80 }, ch3 := ⟨true, 2, 64, 31⟩ } : Apu).audible .ch3 = true ∧
    ({ playing with regs := { playing.regs with nr42 := 0x08 }, ch4 := ⟨true, 8, 64, 0, 0, 1⟩ } : Apu).audible .ch4 = true := by
  decide
theorem witness_FrameSequencerPeriod : 1 ≤ on.apu.fs.counter.toNat ∧ on.apu.fs.counter.toNat ≤ 8192 := by decide
theorem witness_PulseTimerPeriod : 1 ≤ playing.ch2.frequencyTimer.toNat ∧
    playing.ch2.frequencyTimer.toNat ≤ (2048 - frequency playing.regs.nr23 playing.regs.nr24) * 4 := by decide
theorem witness_DutyRatioOverOnePeriod : playing.audible .ch2 = true ∧ playing.lengthEnable .ch2 = false ∧
    playing.regs.nr22.toNat % 8 = 0 ∧ playing.ch2.currentVolume ≠ 0#4 ∧ 1 ≤ playing.ch2.frequencyTimer.toNat ∧
    playing.ch2.frequencyTimer.toNat ≤ (2048 - frequency playing.regs.nr23 playing.regs.nr24) * 4 := by decide
theorem witness_WavePositionPeriod : 1 ≤ playing.ch3.frequencyTimer.toNat ∧
    playing.ch3.frequencyTimer.toNat ≤ (2048 - frequency playing.regs.nr33 playing.regs.nr34) * 2 := by decide
theorem witness_LengthExpiresOnNthClock :
    (let a : Apu := { playing with regs := { playing.regs with nr24 := 0xC7 }, ch2 := ⟨true, 4, 3, 0, 15, 0⟩ };
      a.lengthEnable .ch2 = true ∧ a.enabled .ch2 = true ∧ lengthCounter .ch2 a = 3 ∧ 0 < 3) := by decide
theorem witness_LfsrShiftLosesNothing : lfsrShift false 0x7FFF = lfsrShift false 0x7FFF ∧ (0x0001#15) ≠ 0#15 := by decide
theorem witness_SweepCalculationIsExact : (0x17 : Byte).getLsbD 3 = false ∧ (0x19 : Byte).getLsbD 3 = true ∧
    (0x10 : Byte).toNat % 8 = 0 := by decide
/-- Another choice of the open parameters that keeps what R7 settles: `WAVE_LEN_MAX` = 256 and another scale. -/
def otherParams : Config := { Config.params with waveLenMax := .len256, mixScale := fun sum vol => sum * vol / 2 }
theorem witness_otherParams : otherParams.Valid where
  duty := by decide
  divisor := by decide
  maskHides := by intro x; cases x <;> decide
  maskKeepsDefaults := by decide
  bootPowersFirst := by decide
  bootDefaults := by decide
  scaleRange := fun sum vol hs hv => by
    have := Nat.mul_le_mul hs hv
    change sum * vol / 2 ≤ 255
    omega
  scaleZero := fun vol => by change 0 * vol / 2 = 0; simp
  model := rfl
  scaleMono := fun _ _ _ _ hs hv => Nat.div_le_div_right (Nat.mul_le_mul hs hv)
/-- R8: the same parameters with `MODEL` = extended have no meaning. -/
theorem test_extended_refused : execWith { otherParams with model := .extended } .step State.reset =
    .refused .modelExtended := rfl
theorem witness_EveryOperationCompletes : otherParams.model = .base ∧
    ({ otherParams with model := .extended } : Config).model = .extended := ⟨rfl, rfl⟩
theorem witness_MixerBounds : ∃ c : Config, c.Valid := ⟨otherParams, witness_otherParams⟩
theorem witness_StepKeepsInvariant : State.reset.apu.Inv ∧ step State.reset = .next State.reset :=
  ⟨witness_reset_inv, rfl⟩
theorem witness_StepKeepsInvariant_other : otherParams.Valid ∧ State.reset.apu.InvFor otherParams ∧
    stepWith otherParams State.reset = .next State.reset :=
  ⟨witness_otherParams, ⟨by decide, by decide, fun _ => by decide, rfl⟩, rfl⟩
/-- R119 with `WAVE_LEN_MAX` = 256: all 8 bits of NR31 load the counter. -/
theorem test_nr31_len256 : (waveLengthLoad otherParams 0xC1).toNat = 63 ∧ (waveLengthLoad otherParams 0x00).toNat = 256 ∧
    (waveLengthLoad Config.params 0xC1).toNat = 63 ∧ (waveLengthLoad Config.params 0x40).toNat = 64 := by decide
/-- The masks of R128 are 1 exactly where the field tables say write-only or unused. -/
theorem test_readMask_hiddenBits : ∀ x ∈ sourceDefaults, Config.params.readMask x.1 = x.1.hiddenBits := by decide
/-- U3, R8: no outputs in a cycle without a meaning; `rdata` only while `rd` is 1 (R338). -/
theorem test_portOut_refused :
    portOut ⟨false, true, .base, 0xFF26, 0x80, true, true⟩ State.reset = .error .portOverlap ∧
    portOut ⟨false, true, .extended, 0xFF26, 0x80, false, true⟩ State.reset = .error .modelExtended := by decide
theorem test_portOut_rdata :
    portOut ⟨false, true, .base, 0xFF26, 0x80, false, true⟩ State.reset = .ok ⟨some 0x70, 0, 0⟩ ∧
    portOut ⟨false, true, .base, 0xFF26, 0x80, false, false⟩ State.reset = .ok ⟨none, 0, 0⟩ := by decide
theorem witness_PoweredOffBlockIsSilent : State.reset.apu.Inv ∧ State.reset.apu.masterPower = false ∧
    (∀ v, Instr.step ≠ .wrNr52 v) ∧ (∀ b, Instr.step ≠ .reset b) ∧
    exec (.wrNr12 0xF0) State.reset = .next State.reset :=
  ⟨witness_reset_inv, rfl, fun _ h => Instr.noConfusion h, fun _ h => Instr.noConfusion h, rfl⟩
theorem witness_OnlyTheseOperationsChange : exec (.wrNr52 0x80) State.reset = .next { State.reset with apu := on.apu } ∧
    on.apu.masterPower ≠ State.reset.apu.masterPower ∧ kindOf (encode .rdNr52) = 2#4 ∧ kindOf (encode .sample) = 3#4 :=
  ⟨rfl, by decide, by decide, by decide⟩
theorem witness_EnabledIsSetOnlyByTrigger :
    (onRegs fun r => { r with nr22 := 0xF0 }).apu.enabled .ch2 = false ∧
    exec (.wrNr24 0x80) (onRegs fun r => { r with nr22 := 0xF0 }) =
      .next { on with apu := after (.wrNr24 0x80) (onRegs fun r => { r with nr22 := 0xF0 }) } ∧
    (after (.wrNr24 0x80) (onRegs fun r => { r with nr22 := 0xF0 })).enabled .ch2 = true ∧
    State.reset.apu.enabled .ch1 = false ∧ (after (.reset false) State.reset).enabled .ch1 = true :=
  ⟨by decide, rfl, by decide, by decide, by decide⟩
theorem witness_PortEdgeRunsOperations :
    (let p : PortIn := ⟨false, true, .base, 0xFF26, 0x80, true, false⟩;
      p.model = .base ∧ (p.wr && p.rd) = false ∧ p.rst = false ∧ p.wr = true) ∧
    (let p : PortIn := ⟨true, true, .base, 0xFF26, 0x80, false, true⟩;
      p.model = .base ∧ (p.wr && p.rd) = false ∧ p.rst = true ∧ p.rd = true) ∧
    (let p : PortIn := ⟨false, true, .base, 0xFF26, 0x80, true, true⟩; p.model = .base ∧ (p.wr && p.rd) = true) ∧
    (let p : PortIn := ⟨false, true, .base, 0xFF26, 0x80, false, false⟩;
      p.model = .base ∧ (p.wr && p.rd) = false ∧ p.rst = false ∧ p.wr = false ∧ p.rd = false) ∧
    (⟨false, true, .extended, 0xFF26, 0x80, false, false⟩ : PortIn).model = .extended := by decide

end Sys2Proof.Tests
end

/-! # The envelope registers NR12, NR22, NR42 (40_pulse_channels.md R152, R172; 43_noise_channel.md R237)

All three writes are one operation: store the byte, then run the DAC gate of the channel whose DAC view reads that byte.
Its meaning is proved once, for any register and channel so related. -/
section
namespace Sys2Proof.Machine

/-- The DAC gate of a channel whose DAC view is the envelope byte `v`, in numbers (R170). -/
theorem dacGate_of_envDac {n : ChanId} {v : Byte} {a : Apu} (h : a.dacEnabled n = envDacOf v) :
    dacGate n a = if v.toNat / 8 = 0 then a.disable n else a := by
  rw [dacGate, h, envDacOf_eq]
  by_cases hv : v.toNat / 8 = 0
  · simp [hv]
  · simp [hv]

/-- A write, with the power on, to the register `x` that holds the envelope byte of channel `n` stores the byte and
disables the channel when the byte's bits 7:3 are all 0. -/
theorem exec_ofWrite_envelope {x : CtrlReg} {n : ChanId} {v : Byte} {s : State}
    (hgate : wrCtrl Config.params x v s.apu = acceptWrite x v (dacGate n) s.apu)
    (hview : ∀ a : Apu, a.dacEnabled n = envDacOf (a.reg x)) (hp : s.apu.masterPower = true) :
    exec (Instr.ofWrite x v) s =
      s.commit (if v.toNat / 8 = 0 then (s.apu.store x v).disable n else s.apu.store x v) := by
  have hdac : (s.apu.store x v).dacEnabled n = envDacOf v := by rw [hview, Apu.store_reg_self]
  rw [exec_ofWrite, hgate, acceptWrite_on hp, dacGate_of_envDac hdac]

/-- `WR NR12, v` with the power on (R152). -/
theorem exec_wrNr12_on (v : Byte) {s : State} (hp : s.apu.masterPower = true) :
    exec (.wrNr12 v) s = .next { s with apu := { s.apu with
      regs := { s.apu.regs with nr12 := v }
      ch1 := { s.apu.ch1 with enabled := if v.toNat / 8 = 0 then false else s.apu.ch1.enabled } } } := by
  refine (exec_ofWrite_envelope (x := .nr12) (n := .ch1) rfl (fun _ => rfl) hp).trans ?_
  split_ifs <;> rfl

/-- `WR NR22, v` with the power on (R172). -/
theorem exec_wrNr22_on (v : Byte) {s : State} (hp : s.apu.masterPower = true) :
    exec (.wrNr22 v) s = .next { s with apu := { s.apu with
      regs := { s.apu.regs with nr22 := v }
      ch2 := { s.apu.ch2 with enabled := if v.toNat / 8 = 0 then false else s.apu.ch2.enabled } } } := by
  refine (exec_ofWrite_envelope (x := .nr22) (n := .ch2) rfl (fun _ => rfl) hp).trans ?_
  split_ifs <;> rfl

/-- `WR NR42, v` with the power on (R237). -/
theorem exec_wrNr42_on (v : Byte) {s : State} (hp : s.apu.masterPower = true) :
    exec (.wrNr42 v) s = .next { s with apu := { s.apu with
      regs := { s.apu.regs with nr42 := v }
      ch4 := { s.apu.ch4 with enabled := if v.toNat / 8 = 0 then false else s.apu.ch4.enabled } } } := by
  refine (exec_ofWrite_envelope (x := .nr42) (n := .ch4) rfl (fun _ => rfl) hp).trans ?_
  split_ifs <;> rfl

theorem initialVolumeOf_toNat (v : Byte) : (initialVolumeOf v).toNat = v.toNat / 16 := by
  rw [initialVolumeOf_eq, BitVec.toNat_ofNat]
  have := v.isLt
  omega

/-- Settles O14: each write is the stored byte and then the DAC gate of its channel; the encodings are the format WR of
R114 at the registers' addresses, and the three fields are bits 7:4, 3 and 2:0 of the byte. -/
theorem envelopeRegistersClearEnabled : Obligations.EnvelopeRegistersClearEnabled := by
  unfold Obligations.EnvelopeRegistersClearEnabled
  refine ⟨fun v s hp => ?writes, fun v => ?words, fun v => ?fields⟩
  case writes => exact ⟨exec_wrNr12_on v hp, exec_wrNr22_on v hp, exec_wrNr42_on v hp⟩
  case words => exact ⟨rfl, rfl, rfl⟩
  case fields => exact ⟨initialVolumeOf_toNat v, rfl, paceOf_toNat v⟩

end Sys2Proof.Machine
end

/-! # The sweep calculation (41_sweep_unit.md R196) -/
section
namespace Sys2Proof.Machine

/-- With shift 0 the shifted shadow is the shadow itself, so the calculation cancels it or doubles it. -/
theorem swept_of_shift_zero (shadow : Nat) {r : Byte} (h : r.toNat % 8 = 0) :
    Claims.swept shadow r = if r.getLsbD 3 then 0 else 2 * shadow := by
  rw [Claims.swept, h, Nat.pow_zero, Nat.div_one, Nat.sub_self, Nat.two_mul]

/-- Settles O53: the model's shift is the division by a power of 2, and the shifted shadow is at most the shadow, which
has 11 bits. -/
theorem sweepCalculationIsExact : Obligations.SweepCalculationIsExact := by
  unfold Obligations.SweepCalculationIsExact
  intro f r
  have hexact : sweepCalc f r = Claims.swept f.toNat r := sweepCalc_eq f r
  obtain ⟨hle, hdown⟩ := sweepCalc_le f r
  exact ⟨hexact, fun _ => hle, hdown, fun h => hexact.trans (swept_of_shift_zero _ h)⟩

end Sys2Proof.Machine
end

/-! # The wave channel's DAC register NR30 and wave RAM (42_wave_channel.md R211, R230) -/
section
namespace Sys2Proof.Machine

/-- The DAC gate of CH3 in numbers, where `v` is the byte in NR30 (R215). -/
theorem dacGate_ch3_of_nr30 {v : Byte} {a : Apu} (h : a.reg .nr30 = v) :
    dacGate .ch3 a = if v.toNat / 128 = 0 then a.disable .ch3 else a := by
  have hdac : a.dacEnabled .ch3 = decide (v.toNat / 128 ≠ 0) := by rw [← waveDacOf_eq, ← h]; rfl
  rw [dacGate, hdac]
  by_cases hv : v.toNat / 128 = 0
  · simp [hv]
  · simp [hv]

/-- `WR NR30, v` with the power on (R211). -/
theorem exec_wrNr30_on (v : Byte) {s : State} (hp : s.apu.masterPower = true) :
    exec (.wrNr30 v) s = .next { s with apu := { s.apu with
      regs := { s.apu.regs with nr30 := v }
      ch3 := { s.apu.ch3 with enabled := if v.toNat / 128 = 0 then false else s.apu.ch3.enabled } } } := by
  have hstored : (s.apu.store .nr30 v).reg .nr30 = v := Apu.store_reg_self ..
  have hwrite : wrNr30 v s.apu =
      if v.toNat / 128 = 0 then (s.apu.store .nr30 v).disable .ch3 else s.apu.store .nr30 v := by
    rw [wrNr30, acceptWrite_on hp, dacGate_ch3_of_nr30 hstored]
  refine (congrArg s.commit hwrite).trans ?_
  split_ifs <;> rfl

/-- Settles O15: the write is the stored byte and then the DAC gate of CH3, whose DAC view is bit 7 of the byte; the word
is the format WR of R114 at NR30's address. -/
theorem waveDacRegisterClearsEnabled : Obligations.WaveDacRegisterClearsEnabled := by
  unfold Obligations.WaveDacRegisterClearsEnabled
  exact ⟨fun v _ hp => exec_wrNr30_on v hp, fun _ => rfl, fun _ => rfl⟩

/-- `WR WAVE[k], v` in both power states (R230): a memory write at the byte's bus address. -/
theorem exec_wrWave (k : BitVec 4) (v : Byte) (s : State) :
    exec (.wrWave k v) s =
      .next { s with apu := { s.apu with waveRam := memWrite s.apu.waveRam (0xFF30 + k.toNat) v } } := rfl

/-- The trace word of `WR WAVE[k], v`: kind 1 and the address 0xFF3k fill its upper 24 bits (R112, R114). -/
theorem encode_wrWave (k : BitVec 4) (v : Byte) : encode (.wrWave k v) = 0x10FF3#20 ++ k ++ v := by
  have hupper : 1#4 ++ 0#4 ++ waveAddr k = 0x10FF3#20 ++ k := by revert k; decide
  exact congrArg (· ++ v) hupper

/-- Settles O24: the new memory is `memWrite` at 0xFF30 + k, which keeps the canonical form and reads back as `v` there
and as before at every other address. -/
theorem waveRamWrite : Obligations.WaveRamWrite := by
  unfold Obligations.WaveRamWrite
  refine ⟨fun k v s hwf => ⟨_, exec_wrWave k v s, memWrite_wf k v hwf, ?written, fun x hx => ?others⟩, encode_wrWave⟩
  case written => rw [memRead_memWrite hwf, if_pos rfl]
  case others => rw [memRead_memWrite hwf, if_neg hx]

end Sys2Proof.Machine
end

/-! # Power gating and the status register NR52 (45_register_file.md R278, R284 to R286, R292) -/
section
namespace Sys2Proof.Machine

/-- With the power off a `WR` to a control register is ignored: the write of each of the 20 is `acceptWrite` with an effect
of its own, and they share its gate (R278). -/
theorem wrCtrl_off (c : Config) (x : CtrlReg) (v : Byte) {a : Apu} (h : a.masterPower = false) :
    wrCtrl c x v a = a := by
  unfold wrCtrl
  cases x <;> exact acceptWrite_off h

theorem exec_ofWrite_off (x : CtrlReg) (v : Byte) {s : State} (h : s.apu.masterPower = false) :
    exec (Instr.ofWrite x v) s = .next s := by
  rw [exec_ofWrite, wrCtrl_off _ x v h]
  rfl

theorem exec_wrNr52 (v : Byte) (s : State) : exec (.wrNr52 v) s = s.commit (wrNr52 v s.apu) := rfl

theorem wrNr52_powerOn {v : Byte} (h : v.getLsbD 7 = true) (a : Apu) : wrNr52 v a = a.setPower true := by
  rw [wrNr52, if_pos h, powerOn]

theorem wrNr52_powerOff {v : Byte} (h : v.getLsbD 7 = false) (a : Apu) : wrNr52 v a = powerOff a := by
  rw [wrNr52, h, if_neg Bool.false_ne_true]

/-- `WR NR52` sets the power to bit 7 of the byte, whatever the power was (R286). -/
theorem wrNr52_masterPower (v : Byte) (a : Apu) : (wrNr52 v a).masterPower = v.getLsbD 7 := by
  cases hbit : v.getLsbD 7 with
  | true => rw [wrNr52_powerOn hbit, Apu.setPower_masterPower]
  | false => rw [wrNr52_powerOff hbit]; rfl

/-- Settles O11: the 20 control registers share the power gate, and wave RAM and NR52 stand outside it. -/
theorem powerGateIgnoresWrites : Obligations.PowerGateIgnoresWrites := by
  unfold Obligations.PowerGateIgnoresWrites
  intro s hoff
  refine ⟨fun x v => exec_ofWrite_off x v hoff, fun k v => exec_wrWave k v s, fun v => ?power⟩
  case power => exact ⟨_, exec_wrNr52 v s, wrNr52_masterPower v s.apu⟩

/-- Settles O21: with bit 7 set the write is the update of `masterPower` alone. -/
theorem powerOnSetsOnlyPower : Obligations.PowerOnSetsOnlyPower := by
  unfold Obligations.PowerOnSetsOnlyPower
  intro v s hbit
  rw [exec_wrNr52, wrNr52_powerOn hbit]
  rfl

theorem exec_rdNr52 (s : State) : exec .rdNr52 s = s.reply (.byte s.apu.statusByte) := rfl

/-- The byte `{power, 0b111, ch4, ch3, ch2, ch1}` in numbers (R292). -/
theorem statusBits_eq_ofNat (power ch4 ch3 ch2 ch1 : Bool) :
    BitVec.ofBool power ++ 0b111#3 ++ BitVec.ofBool ch4 ++ BitVec.ofBool ch3 ++ BitVec.ofBool ch2 ++ BitVec.ofBool ch1 =
      BitVec.ofNat 8 (power.toNat * 128 + 112 + ch4.toNat * 8 + ch3.toNat * 4 + ch2.toNat * 2 + ch1.toNat) := by
  revert power ch4 ch3 ch2 ch1
  decide

theorem Apu.statusByte_eq_ofNat (a : Apu) :
    a.statusByte = BitVec.ofNat 8 (a.masterPower.toNat * 128 + 112 + a.ch4.enabled.toNat * 8 + a.ch3.enabled.toNat * 4 +
      a.ch2.enabled.toNat * 2 + a.ch1.enabled.toNat) := statusBits_eq_ofNat ..

/-- With the power off the invariant keeps all four flags at 0 (R67), and the power bit is 0 too. -/
theorem Apu.statusByte_off {c : Config} {a : Apu} (hinv : a.InvFor c) (hoff : a.masterPower = false) :
    a.statusByte = 0x70 := by
  obtain ⟨-, h1, h2, h3, h4, -⟩ := hinv.powerGate hoff
  rw [Apu.statusByte_eq_ofNat, hoff, h1, h2, h3, h4]
  rfl

/-- Settles O30: the read answers the status byte, whose bits are the live power and `enabled` flags. -/
theorem statusRegisterRead : Obligations.StatusRegisterRead := by
  unfold Obligations.StatusRegisterRead
  refine ⟨fun s => ?live, fun s hinv hoff => ?off, rfl⟩
  case live => rw [exec_rdNr52, Apu.statusByte_eq_ofNat]; rfl
  case off => rw [exec_rdNr52, Apu.statusByte_off hinv hoff]; rfl

end Sys2Proof.Machine
end

/-! # Operations by form

The 49 operations are eleven forms: `WR` and `RD` of a control register, of NR52, of a wave RAM byte and of an unmapped
address, and `STEP`, `SAMPLE` and `RESET` (30_encoding.md R113 to R115). A statement about every operation is proved form by
form. -/
section
namespace Sys2Proof

/-- The form of an operation. -/
inductive Instr.Form : Instr → Prop where
  | step : Form .step
  | sample : Form .sample
  | reset (b : Bool) : Form (.reset b)
  | write (x : CtrlReg) (v : Byte) : Form (.ofWrite x v)
  | wrNr52 (v : Byte) : Form (.wrNr52 v)
  | wrWave (k : BitVec 4) (v : Byte) : Form (.wrWave k v)
  | wrUnmapped (a : Addr) (v : Byte) : Form (.wrUnmapped a v)
  | read (x : CtrlReg) : Form (.ofRead x)
  | rdNr52 : Form .rdNr52
  | rdWave (k : BitVec 4) : Form (.rdWave k)
  | rdUnmapped (a : Addr) : Form (.rdUnmapped a)

/-- Every operation is of one of the eleven forms. -/
theorem Instr.form : ∀ i : Instr, i.Form
  | .step => .step
  | .wrNr10 v => .write .nr10 v
  | .wrNr11 v => .write .nr11 v
  | .wrNr12 v => .write .nr12 v
  | .wrNr13 v => .write .nr13 v
  | .wrNr14 v => .write .nr14 v
  | .wrNr21 v => .write .nr21 v
  | .wrNr22 v => .write .nr22 v
  | .wrNr23 v => .write .nr23 v
  | .wrNr24 v => .write .nr24 v
  | .wrNr30 v => .write .nr30 v
  | .wrNr31 v => .write .nr31 v
  | .wrNr32 v => .write .nr32 v
  | .wrNr33 v => .write .nr33 v
  | .wrNr34 v => .write .nr34 v
  | .wrNr41 v => .write .nr41 v
  | .wrNr42 v => .write .nr42 v
  | .wrNr43 v => .write .nr43 v
  | .wrNr44 v => .write .nr44 v
  | .wrNr50 v => .write .nr50 v
  | .wrNr51 v => .write .nr51 v
  | .wrNr52 v => .wrNr52 v
  | .wrWave k v => .wrWave k v
  | .wrUnmapped a v => .wrUnmapped a v
  | .rdNr10 => .read .nr10
  | .rdNr11 => .read .nr11
  | .rdNr12 => .read .nr12
  | .rdNr13 => .read .nr13
  | .rdNr14 => .read .nr14
  | .rdNr21 => .read .nr21
  | .rdNr22 => .read .nr22
  | .rdNr23 => .read .nr23
  | .rdNr24 => .read .nr24
  | .rdNr30 => .read .nr30
  | .rdNr31 => .read .nr31
  | .rdNr32 => .read .nr32
  | .rdNr33 => .read .nr33
  | .rdNr34 => .read .nr34
  | .rdNr41 => .read .nr41
  | .rdNr42 => .read .nr42
  | .rdNr43 => .read .nr43
  | .rdNr44 => .read .nr44
  | .rdNr50 => .read .nr50
  | .rdNr51 => .read .nr51
  | .rdNr52 => .rdNr52
  | .rdWave k => .rdWave k
  | .rdUnmapped a => .rdUnmapped a
  | .sample => .sample
  | .reset b => .reset b

theorem encode_ofWrite (x : CtrlReg) (v : Byte) : encode (.ofWrite x v) = traceWord 1 x.addr v := by cases x <;> rfl

theorem encode_ofRead (x : CtrlReg) : encode (.ofRead x) = traceWord 2 x.addr 0 := by cases x <;> rfl

theorem wf_ofWrite (x : CtrlReg) (v : Byte) : (Instr.ofWrite x v).wf = true := by cases x <;> rfl

theorem wf_ofRead (x : CtrlReg) : (Instr.ofRead x).wf = true := by cases x <;> rfl

end Sys2Proof
end

/-! # Decoding (30_encoding.md R112 to R116, R130)

The round trip in both directions goes through two facts: what `decode` answers on a word with given fields, and the
inversion `decode_eq_ok_iff`, which says once what a word that decodes looks like. -/
section
namespace Sys2Proof

/-! ### The operation an address names -/

theorem isUnmapped_iff (a : Addr) : isUnmapped a = true ↔ targetOf a = .unmapped := beq_iff_eq

theorem writeInstr_ctrl {a : Addr} {x : CtrlReg} (h : targetOf a = .ctrl x) (v : Byte) :
    writeInstr a v = .ofWrite x v := by rw [writeInstr, h]

theorem writeInstr_nr52 {a : Addr} (h : targetOf a = .nr52) (v : Byte) : writeInstr a v = .wrNr52 v := by
  rw [writeInstr, h]

theorem writeInstr_wave {a : Addr} {k : BitVec 4} (h : targetOf a = .wave k) (v : Byte) :
    writeInstr a v = .wrWave k v := by rw [writeInstr, h]

theorem writeInstr_unmapped {a : Addr} (h : targetOf a = .unmapped) (v : Byte) :
    writeInstr a v = .wrUnmapped a v := by rw [writeInstr, h]

theorem readInstr_ctrl {a : Addr} {x : CtrlReg} (h : targetOf a = .ctrl x) : readInstr a = .ofRead x := by
  rw [readInstr, h]

theorem readInstr_nr52 {a : Addr} (h : targetOf a = .nr52) : readInstr a = .rdNr52 := by rw [readInstr, h]

theorem readInstr_wave {a : Addr} {k : BitVec 4} (h : targetOf a = .wave k) : readInstr a = .rdWave k := by
  rw [readInstr, h]

theorem readInstr_unmapped {a : Addr} (h : targetOf a = .unmapped) : readInstr a = .rdUnmapped a := by
  rw [readInstr, h]

theorem encode_writeInstr (a : Addr) (v : Byte) : encode (writeInstr a v) = traceWord 1 a v := by
  cases h : targetOf a with
  | ctrl x => rw [writeInstr_ctrl h, encode_ofWrite, targetOf_eq_ctrl h]
  | nr52 => rw [writeInstr_nr52 h, targetOf_eq_nr52 h]; rfl
  | wave k => rw [writeInstr_wave h, targetOf_eq_wave h]; rfl
  | unmapped => rw [writeInstr_unmapped h]; rfl

theorem encode_readInstr (a : Addr) : encode (readInstr a) = traceWord 2 a 0 := by
  cases h : targetOf a with
  | ctrl x => rw [readInstr_ctrl h, encode_ofRead, targetOf_eq_ctrl h]
  | nr52 => rw [readInstr_nr52 h, targetOf_eq_nr52 h]; rfl
  | wave k => rw [readInstr_wave h, targetOf_eq_wave h]; rfl
  | unmapped => rw [readInstr_unmapped h]; rfl

/-- An address gives the unmapped form only when it is unmapped. -/
theorem wf_writeInstr (a : Addr) (v : Byte) : (writeInstr a v).wf = true := by
  cases h : targetOf a with
  | ctrl x => rw [writeInstr_ctrl h, wf_ofWrite]
  | nr52 => rw [writeInstr_nr52 h]; rfl
  | wave k => rw [writeInstr_wave h]; rfl
  | unmapped => rw [writeInstr_unmapped h]; exact (isUnmapped_iff a).mpr h

theorem wf_readInstr (a : Addr) : (readInstr a).wf = true := by
  cases h : targetOf a with
  | ctrl x => rw [readInstr_ctrl h, wf_ofRead]
  | nr52 => rw [readInstr_nr52 h]; rfl
  | wave k => rw [readInstr_wave h]; rfl
  | unmapped => rw [readInstr_unmapped h]; exact (isUnmapped_iff a).mpr h

/-! ### What the decoder answers -/

theorem decode_write (a : Addr) (v : Byte) : decode (traceWord 1 a v) = .ok (writeInstr a v) := by
  simp [decode]

theorem decode_read (a : Addr) : decode (traceWord 2 a 0) = .ok (readInstr a) := by
  simp [decode]

theorem decodeCtl_eq_ok_iff (w : TraceWord) (mask : Byte) (i j : Instr) :
    decodeCtl w mask i = .ok j ↔ addrOf w = 0#16 ∧ dataOf w &&& mask = 0#8 ∧ j = i := by
  unfold decodeCtl
  simp only [BitVec.ofNat_eq_ofNat]
  by_cases ha : addrOf w = 0#16
  · by_cases hd : dataOf w &&& mask = 0#8
    · simp [ha, hd, eq_comm]
    · simp [ha, hd]
  · simp [ha]

/-- What a word that decodes looks like, field by field (R113 to R116). -/
theorem decode_eq_ok_iff (w : TraceWord) (i : Instr) :
    decode w = .ok i ↔ zeroOf w = 0#4 ∧
      (kindOf w = 0#4 ∧ addrOf w = 0#16 ∧ dataOf w = 0#8 ∧ i = .step ∨
       kindOf w = 1#4 ∧ i = writeInstr (addrOf w) (dataOf w) ∨
       kindOf w = 2#4 ∧ dataOf w = 0#8 ∧ i = readInstr (addrOf w) ∨
       kindOf w = 3#4 ∧ addrOf w = 0#16 ∧ dataOf w = 0#8 ∧ i = .sample ∨
       kindOf w = 4#4 ∧ addrOf w = 0#16 ∧ dataOf w &&& 0xFE#8 = 0#8 ∧ i = .reset ((dataOf w).getLsbD 0)) := by
  have hff : dataOf w &&& 0xFF#8 = dataOf w := BitVec.and_allOnes
  unfold decode
  simp only [BitVec.ofNat_eq_ofNat]
  by_cases hz : zeroOf w = 0#4
  · generalize kindOf w = k
    by_cases h0 : k = 0#4
    · subst h0; simp [hz, decodeCtl_eq_ok_iff, hff]
    by_cases h1 : k = 1#4
    · subst h1; simp [hz, eq_comm]
    by_cases h2 : k = 2#4
    · subst h2
      by_cases hd : dataOf w = 0#8
      · simp [hz, hd, eq_comm]
      · simp [hz, hd]
    by_cases h3 : k = 3#4
    · subst h3; simp [hz, decodeCtl_eq_ok_iff, hff]
    by_cases h4 : k = 4#4
    · subst h4; simp [hz, decodeCtl_eq_ok_iff]
    · simp [hz, h0, h1, h2, h3, h4]
  · simp [hz]

/-- The data byte of a `RESET` word is its bit 0 (R113). -/
theorem data_of_reset (v : Byte) (h : v &&& 0xFE#8 = 0#8) : (if v.getLsbD 0 then 1 else 0) = v := by
  revert v; decide

/-- Settles O2: form by form, each encoding is a word with known fields, and the address field of a `WR` or `RD` names
the target it was written from; well-formedness says so for the unmapped forms. -/
theorem decodeOfEncodeIsIdentity : Obligations.DecodeOfEncodeIsIdentity := by
  unfold Obligations.DecodeOfEncodeIsIdentity
  intro i hwf
  cases i.form with
  | step => rfl
  | sample => rfl
  | reset b => cases b <;> rfl
  | write x v => rw [encode_ofWrite, decode_write, writeInstr_ctrl (targetOf_ctrl x)]
  | wrNr52 v => exact (decode_write _ v).trans (by rw [writeInstr_nr52 targetOf_nr52])
  | wrWave k v => exact (decode_write _ v).trans (by rw [writeInstr_wave (targetOf_wave k)])
  | wrUnmapped a v => exact (decode_write a v).trans (by rw [writeInstr_unmapped ((isUnmapped_iff a).mp hwf)])
  | read x => rw [encode_ofRead, decode_read, readInstr_ctrl (targetOf_ctrl x)]
  | rdNr52 => exact (decode_read _).trans (by rw [readInstr_nr52 targetOf_nr52])
  | rdWave k => exact (decode_read _).trans (by rw [readInstr_wave (targetOf_wave k)])
  | rdUnmapped a => exact (decode_read a).trans (by rw [readInstr_unmapped ((isUnmapped_iff a).mp hwf)])

/-- Settles O3: a word that decodes is made of its fields, and in each of the five kinds the operation's encoding has
the same fields. -/
theorem encodeOfDecodeIsIdentity : Obligations.EncodeOfDecodeIsIdentity := by
  unfold Obligations.EncodeOfDecodeIsIdentity
  intro w i h
  obtain ⟨hz, hkind⟩ := (decode_eq_ok_iff w i).mp h
  rw [← traceWord_fields hz]
  rcases hkind with ⟨hk, ha, hd, rfl⟩ | ⟨hk, rfl⟩ | ⟨hk, hd, rfl⟩ | ⟨hk, ha, hd, rfl⟩ | ⟨hk, ha, hd, rfl⟩
  · rw [hk, ha, hd]; exact ⟨rfl, rfl⟩
  · rw [hk]; exact ⟨encode_writeInstr _ _, wf_writeInstr _ _⟩
  · rw [hk, hd]; exact ⟨encode_readInstr _, wf_readInstr _⟩
  · rw [hk, ha, hd]; exact ⟨rfl, rfl⟩
  · refine ⟨?_, rfl⟩
    rw [hk, ha]
    exact congrArg (traceWord 4 0) (data_of_reset _ hd)

/-! ### Reserved words in numbers -/

theorem kindOf_toNat (w : TraceWord) : (kindOf w).toNat = w.toNat / 2 ^ 28 := by
  have := w.isLt
  rw [kindOf, BitVec.extractLsb'_toNat, Nat.shiftRight_eq_div_pow]
  omega

theorem zeroOf_toNat (w : TraceWord) : (zeroOf w).toNat = w.toNat / 2 ^ 24 % 16 := by
  rw [zeroOf, BitVec.extractLsb'_toNat, Nat.shiftRight_eq_div_pow]

theorem addrOf_toNat (w : TraceWord) : (addrOf w).toNat = w.toNat / 2 ^ 8 % 2 ^ 16 := by
  rw [addrOf, BitVec.extractLsb'_toNat, Nat.shiftRight_eq_div_pow]

theorem dataOf_toNat (w : TraceWord) : (dataOf w).toNat = w.toNat % 2 ^ 8 := by
  rw [dataOf, BitVec.extractLsb'_toNat, Nat.shiftRight_zero]

theorem and_0xFE_eq_zero_iff (v : Byte) : v &&& 0xFE#8 = 0#8 ↔ v.toNat < 2 := by revert v; decide

theorem decode_error_iff (w : TraceWord) : (∃ e, decode w = .error e) ↔ ¬∃ i, decode w = .ok i := by
  cases decode w <;> simp

/-- Settles O4: the words that decode, by their fields, and each field as a number. -/
theorem reservedTraceWordsRefused : Obligations.ReservedTraceWordsRefused := by
  unfold Obligations.ReservedTraceWordsRefused
  intro w
  have hk := kindOf_toNat w
  have hz := zeroOf_toNat w
  have ha := addrOf_toNat w
  have hd := dataOf_toNat w
  have hok : (∃ i, decode w = .ok i) ↔ (zeroOf w).toNat = 0 ∧
      ((kindOf w).toNat = 0 ∧ (addrOf w).toNat = 0 ∧ (dataOf w).toNat = 0 ∨ (kindOf w).toNat = 1 ∨
       (kindOf w).toNat = 2 ∧ (dataOf w).toNat = 0 ∨
       (kindOf w).toNat = 3 ∧ (addrOf w).toNat = 0 ∧ (dataOf w).toNat = 0 ∨
       (kindOf w).toNat = 4 ∧ (addrOf w).toNat = 0 ∧ (dataOf w).toNat < 2) := by
    simp only [decode_eq_ok_iff, exists_and_left, exists_or, exists_eq, and_true, and_0xFE_eq_zero_iff]
    simp only [← BitVec.toNat_inj, BitVec.toNat_ofNat]
  rw [decode_error_iff, hok]
  omega

end Sys2Proof
end

/-! # The opcode table (opcode_table.json; 30_encoding.md R116)

A row is hit field by field, so the 49 rows fall into the eleven forms, and the search for the first row of a word follows
its `kind` and then the address decoder. -/
section
namespace Sys2Proof

/-- The four fields make up the word (R112). -/
theorem word_eq_iff (w w' : TraceWord) :
    w = w' ↔ kindOf w = kindOf w' ∧ zeroOf w = zeroOf w' ∧ addrOf w = addrOf w' ∧ dataOf w = dataOf w' := by
  simp only [← BitVec.toNat_inj, kindOf_toNat, zeroOf_toNat, addrOf_toNat, dataOf_toNat]
  omega

/-- A word hits a row when its fields do. Every mask of the table covers `kind` and `zero`, and every row has `zero` = 0;
`ma` and `md` are the mask's parts for `addr` and `data`. -/
theorem hit_iff {m v : TraceWord} {k : BitVec 4} {a ma : Addr} {d md : Byte}
    (hm : kindOf m = BitVec.allOnes 4 ∧ zeroOf m = BitVec.allOnes 4 ∧ addrOf m = ma ∧ dataOf m = md)
    (hv : v = traceWord k a d) (w : TraceWord) :
    OpcodeRow.hit ⟨m, v⟩ w = true ↔
      kindOf w = k ∧ zeroOf w = 0#4 ∧ addrOf w &&& ma = a ∧ dataOf w &&& md = d := by
  obtain ⟨hk, hz, ha, hd⟩ := hm
  have hand : ∀ start len, (w &&& m).extractLsb' start len =
      w.extractLsb' start len &&& m.extractLsb' start len := fun _ _ => BitVec.extractLsb'_and
  have hkind : kindOf (w &&& m) = kindOf w := (hand _ _).trans ((congrArg _ hk).trans BitVec.and_allOnes)
  have hzero : zeroOf (w &&& m) = zeroOf w := (hand _ _).trans ((congrArg _ hz).trans BitVec.and_allOnes)
  have haddr : addrOf (w &&& m) = addrOf w &&& ma := (hand _ _).trans (congrArg _ ha)
  have hdata : dataOf (w &&& m) = dataOf w &&& md := (hand _ _).trans (congrArg _ hd)
  rw [OpcodeRow.hit, beq_iff_eq, word_eq_iff, hkind, hzero, haddr, hdata, hv, kindOf_traceWord, zeroOf_traceWord,
    addrOf_traceWord, dataOf_traceWord]
  rfl

section hits
variable (w : TraceWord)

/-- A row with no free bit. -/
theorem hit_word {v : TraceWord} {k : BitVec 4} {a : Addr} (hv : v = traceWord k a 0#8) :
    OpcodeRow.hit ⟨0xFFFFFFFF, v⟩ w = true ↔ kindOf w = k ∧ zeroOf w = 0#4 ∧ addrOf w = a ∧ dataOf w = 0#8 := by
  rw [hit_iff (ma := BitVec.allOnes 16) (md := BitVec.allOnes 8) (by decide) hv, BitVec.and_allOnes, BitVec.and_allOnes]

/-- A row whose data byte is free. -/
theorem hit_addr {v : TraceWord} {k : BitVec 4} {a : Addr} (hv : v = traceWord k a 0#8) :
    OpcodeRow.hit ⟨0xFFFFFF00, v⟩ w = true ↔ kindOf w = k ∧ zeroOf w = 0#4 ∧ addrOf w = a := by
  rw [hit_iff (ma := BitVec.allOnes 16) (md := 0#8) (by decide) hv, BitVec.and_allOnes, BitVec.and_zero]
  simp

theorem hit_step : Instr.step.row.hit w = true ↔
    kindOf w = 0#4 ∧ zeroOf w = 0#4 ∧ addrOf w = 0#16 ∧ dataOf w = 0#8 := hit_word w rfl

theorem hit_ofWrite (x : CtrlReg) (v : Byte) :
    (Instr.ofWrite x v).row.hit w = true ↔ kindOf w = 1#4 ∧ zeroOf w = 0#4 ∧ addrOf w = x.addr := by
  cases x <;> exact hit_addr w rfl

theorem hit_wrNr52 (v : Byte) :
    (Instr.wrNr52 v).row.hit w = true ↔ kindOf w = 1#4 ∧ zeroOf w = 0#4 ∧ addrOf w = nr52Addr := hit_addr w rfl

theorem hit_ofRead (x : CtrlReg) :
    (Instr.ofRead x).row.hit w = true ↔ kindOf w = 2#4 ∧ zeroOf w = 0#4 ∧ addrOf w = x.addr ∧ dataOf w = 0#8 := by
  cases x <;> exact hit_word w rfl

theorem hit_rdNr52 : Instr.rdNr52.row.hit w = true ↔
    kindOf w = 2#4 ∧ zeroOf w = 0#4 ∧ addrOf w = nr52Addr ∧ dataOf w = 0#8 := hit_word w rfl

theorem hit_sample : Instr.sample.row.hit w = true ↔
    kindOf w = 3#4 ∧ zeroOf w = 0#4 ∧ addrOf w = 0#16 ∧ dataOf w = 0#8 := hit_word w rfl

/-- The wave RAM rows' mask compares bits 15:4 of the address with 0xFF3. -/
theorem and_0xFFF0_eq_iff (a : Addr) : a &&& 0xFFF0#16 = 0xFF30#16 ↔ a.extractLsb' 4 12 = 0xFF3#12 := by
  have hsplit : ∀ x y : Addr, x = y ↔
      x.extractLsb' 4 12 = y.extractLsb' 4 12 ∧ x.extractLsb' 0 4 = y.extractLsb' 0 4 := fun x y => by
    simp only [← BitVec.toNat_inj, BitVec.extractLsb'_toNat, Nat.shiftRight_eq_div_pow]
    omega
  have hhigh : (a &&& 0xFFF0#16).extractLsb' 4 12 = a.extractLsb' 4 12 :=
    BitVec.extractLsb'_and.trans BitVec.and_allOnes
  have hlow : (a &&& 0xFFF0#16).extractLsb' 0 4 = 0#4 := BitVec.extractLsb'_and.trans BitVec.and_zero
  rw [hsplit, hhigh, hlow]
  exact and_iff_left rfl

theorem hit_wrWave (k : BitVec 4) (v : Byte) : (Instr.wrWave k v).row.hit w = true ↔
    kindOf w = 1#4 ∧ zeroOf w = 0#4 ∧ (addrOf w).extractLsb' 4 12 = 0xFF3#12 := by
  refine (hit_iff (k := 1#4) (a := 0xFF30#16) (ma := 0xFFF0#16) (d := 0#8) (md := 0#8) (by decide) rfl w).trans ?_
  rw [and_0xFFF0_eq_iff, BitVec.and_zero]
  simp

theorem hit_rdWave (k : BitVec 4) : (Instr.rdWave k).row.hit w = true ↔
    kindOf w = 2#4 ∧ zeroOf w = 0#4 ∧ (addrOf w).extractLsb' 4 12 = 0xFF3#12 ∧ dataOf w = 0#8 := by
  refine (hit_iff (k := 2#4) (a := 0xFF30#16) (ma := 0xFFF0#16) (d := 0#8) (md := BitVec.allOnes 8) (by decide) rfl
    w).trans ?_
  rw [and_0xFFF0_eq_iff, BitVec.and_allOnes]

theorem hit_wrUnmapped (a : Addr) (v : Byte) : (Instr.wrUnmapped a v).row.hit w = true ↔
    kindOf w = 1#4 ∧ zeroOf w = 0#4 := by
  refine (hit_iff (k := 1#4) (a := 0#16) (ma := 0#16) (d := 0#8) (md := 0#8) (by decide) rfl w).trans ?_
  rw [BitVec.and_zero, BitVec.and_zero]
  simp

theorem hit_rdUnmapped (a : Addr) : (Instr.rdUnmapped a).row.hit w = true ↔
    kindOf w = 2#4 ∧ zeroOf w = 0#4 ∧ dataOf w = 0#8 := by
  refine (hit_iff (k := 2#4) (a := 0#16) (ma := 0#16) (d := 0#8) (md := BitVec.allOnes 8) (by decide) rfl w).trans ?_
  rw [BitVec.and_zero, BitVec.and_allOnes]
  simp

theorem hit_reset (b : Bool) : (Instr.reset b).row.hit w = true ↔
    kindOf w = 4#4 ∧ zeroOf w = 0#4 ∧ addrOf w = 0#16 ∧ dataOf w &&& 0xFE#8 = 0#8 := by
  refine (hit_iff (k := 4#4) (a := 0#16) (ma := BitVec.allOnes 16) (d := 0#8) (md := 0xFE#8) (by decide) rfl w).trans ?_
  rw [BitVec.and_allOnes]

end hits

/-! ### The address decoder as a case distinction -/

theorem targetOf_ctrl_iff {a : Addr} {x : CtrlReg} : targetOf a = .ctrl x ↔ a = x.addr :=
  ⟨targetOf_eq_ctrl, fun h => h ▸ targetOf_ctrl x⟩

theorem targetOf_nr52_iff {a : Addr} : targetOf a = .nr52 ↔ a = nr52Addr :=
  ⟨targetOf_eq_nr52, fun h => h ▸ targetOf_nr52⟩

theorem targetOf_wave_iff {a : Addr} : (∃ k, targetOf a = .wave k) ↔ a.extractLsb' 4 12 = 0xFF3#12 := by
  constructor
  · rintro ⟨k, h⟩
    rw [targetOf_eq_wave h]
    exact Laws.EncodesRow.waveAddr_top k
  · exact fun h => ⟨_, if_pos h⟩

/-! ### The first row of a word -/

/-- The row of a target, of the rows of one direction. -/
def Target.row (ctrl : CtrlReg → OpcodeRow) (nr52 wave unmapped : OpcodeRow) : Target → OpcodeRow
  | .ctrl x => ctrl x
  | .nr52 => nr52
  | .wave _ => wave
  | .unmapped => unmapped

/-- The rows of one direction, in the table's order, and then others. -/
def busRows (ctrl : CtrlReg → OpcodeRow) (nr52 wave unmapped : OpcodeRow) (rest : List OpcodeRow) : List OpcodeRow :=
  CtrlReg.all.map ctrl ++ nr52 :: wave :: unmapped :: rest

section busRows
variable {ctrl : CtrlReg → OpcodeRow} {nr52 wave unmapped : OpcodeRow} {rest : List OpcodeRow} {w : TraceWord}

theorem find_ctrl_some (hctrl : ∀ y, (ctrl y).hit w = true ↔ targetOf (addrOf w) = .ctrl y) {x : CtrlReg}
    (hx : targetOf (addrOf w) = .ctrl x) : (CtrlReg.all.map ctrl).find? (fun r => r.hit w) = some (ctrl x) := by
  have hfirst : CtrlReg.all.find? (fun y => decide (x = y)) = some x := by cases x <;> rfl
  have hcomp : (fun r => r.hit w) ∘ ctrl = fun y => decide (x = y) :=
    funext fun y => Bool.eq_iff_iff.mpr ((hctrl y).trans (by rw [hx, decide_eq_true_iff, Target.ctrl.injEq]))
  rw [List.find?_map, hcomp, hfirst]
  rfl

theorem find_ctrl_none (hno : ∀ y, ¬(ctrl y).hit w = true) :
    (CtrlReg.all.map ctrl).find? (fun r => r.hit w) = none :=
  List.find?_eq_none.mpr fun _ hr => by
    obtain ⟨x, -, rfl⟩ := List.mem_map.mp hr
    exact hno x

/-- Among the rows of one direction the first that a word hits is the row of the target its address names: the rows of
registers and wave RAM do not overlap, and the unmapped row stands behind them. -/
theorem find_busRows (hctrl : ∀ y, (ctrl y).hit w = true ↔ targetOf (addrOf w) = .ctrl y)
    (hnr52 : nr52.hit w = true ↔ targetOf (addrOf w) = .nr52)
    (hwave : wave.hit w = true ↔ ∃ k, targetOf (addrOf w) = .wave k) (hunmapped : unmapped.hit w = true) :
    (busRows ctrl nr52 wave unmapped rest).find? (fun r => r.hit w) =
      some ((targetOf (addrOf w)).row ctrl nr52 wave unmapped) := by
  have hnone : (∀ y, targetOf (addrOf w) ≠ .ctrl y) → (CtrlReg.all.map ctrl).find? (fun r => r.hit w) = none :=
    fun h => find_ctrl_none fun y => mt (hctrl y).mp (h y)
  rw [busRows, List.find?_append]
  cases h : targetOf (addrOf w) with
  | ctrl x => rw [find_ctrl_some hctrl h]; rfl
  | nr52 => rw [hnone (by simp [h])]; simp [hnr52, h, Target.row]
  | wave k => rw [hnone (by simp [h])]; simp [hnr52, hwave, h, Target.row]
  | unmapped => rw [hnone (by simp [h])]; simp [hnr52, hwave, hunmapped, h, Target.row]

theorem find_busRows_miss (hctrl : ∀ y, ¬(ctrl y).hit w = true) (hnr52 : ¬nr52.hit w = true)
    (hwave : ¬wave.hit w = true) (hunmapped : ¬unmapped.hit w = true) :
    (busRows ctrl nr52 wave unmapped rest).find? (fun r => r.hit w) = rest.find? (fun r => r.hit w) := by
  rw [busRows, List.find?_append, find_ctrl_none hctrl]
  simp [hnr52, hwave, hunmapped]

end busRows

/-- `RD` rows to the end of the table. -/
def readRows : List OpcodeRow :=
  busRows (fun x => (Instr.ofRead x).row) Instr.rdNr52.row (Instr.rdWave 0).row (Instr.rdUnmapped 0).row
    [Instr.sample.row, (Instr.reset false).row]

/-- The rows of the table, form by form, in its order. -/
theorem opcodeRows_eq : opcodeRows = Instr.step.row ::
    busRows (fun x => (Instr.ofWrite x 0).row) (Instr.wrNr52 0).row (Instr.wrWave 0 0).row (Instr.wrUnmapped 0 0).row
      readRows := rfl

theorem row_writeInstr (a : Addr) (v : Byte) : (writeInstr a v).row = (targetOf a).row
    (fun x => (Instr.ofWrite x 0).row) (Instr.wrNr52 0).row (Instr.wrWave 0 0).row (Instr.wrUnmapped 0 0).row := by
  cases h : targetOf a with
  | ctrl x => rw [writeInstr_ctrl h]; cases x <;> rfl
  | nr52 => rw [writeInstr_nr52 h]; rfl
  | wave k => rw [writeInstr_wave h]; rfl
  | unmapped => rw [writeInstr_unmapped h]; rfl

theorem row_readInstr (a : Addr) : (readInstr a).row = (targetOf a).row
    (fun x => (Instr.ofRead x).row) Instr.rdNr52.row (Instr.rdWave 0).row (Instr.rdUnmapped 0).row := by
  cases h : targetOf a with
  | ctrl x => rw [readInstr_ctrl h]; rfl
  | nr52 => rw [readInstr_nr52 h]; rfl
  | wave k => rw [readInstr_wave h]; rfl
  | unmapped => rw [readInstr_unmapped h]; rfl

section kinds
variable {w : TraceWord}

theorem firstRow_write (hz : zeroOf w = 0#4) (hk : kindOf w = 1#4) :
    firstRow w = some (writeInstr (addrOf w) (dataOf w)).row := by
  rw [firstRow, opcodeRows_eq, List.find?_cons_of_neg (by simp [hit_step, hk]), row_writeInstr]
  refine find_busRows (fun y => ?_) ?_ ?_ ?_
  · simp [hit_ofWrite, hz, hk, targetOf_ctrl_iff]
  · simp [hit_wrNr52, hz, hk, targetOf_nr52_iff]
  · simp [hit_wrWave, hz, hk, targetOf_wave_iff]
  · simp [hit_wrUnmapped, hz, hk]

/-- Any other word passes the rows of `WR`. -/
theorem firstRow_of_not_write (hw : ¬(kindOf w = 1#4 ∧ zeroOf w = 0#4)) :
    firstRow w = (Instr.step.row :: readRows).find? (fun r => r.hit w) := by
  have hmiss := find_busRows_miss (rest := readRows) (w := w)
    (fun x => mt (hit_ofWrite w x 0).mp fun h => hw ⟨h.1, h.2.1⟩) (mt (hit_wrNr52 w 0).mp fun h => hw ⟨h.1, h.2.1⟩)
    (mt (hit_wrWave w 0 0).mp fun h => hw ⟨h.1, h.2.1⟩) (mt (hit_wrUnmapped w 0 0).mp hw)
  rw [firstRow, opcodeRows_eq, List.find?_cons, hmiss, List.find?_cons]

theorem firstRow_read (hz : zeroOf w = 0#4) (hk : kindOf w = 2#4) (hd : dataOf w = 0#8) :
    firstRow w = some (readInstr (addrOf w)).row := by
  rw [firstRow_of_not_write (by simp [hk]), List.find?_cons_of_neg (by simp [hit_step, hk]), row_readInstr]
  refine find_busRows (fun y => ?_) ?_ ?_ ?_
  · simp [hit_ofRead, hz, hk, hd, targetOf_ctrl_iff]
  · simp [hit_rdNr52, hz, hk, hd, targetOf_nr52_iff]
  · simp [hit_rdWave, hz, hk, hd, targetOf_wave_iff]
  · simp [hit_rdUnmapped, hz, hk, hd]

/-- A word that is neither a `WR` nor a `RD` can hit the rows of `STEP`, `SAMPLE` and `RESET` only. -/
theorem firstRow_ctl (hw : ¬(kindOf w = 1#4 ∧ zeroOf w = 0#4))
    (hr : ¬(kindOf w = 2#4 ∧ zeroOf w = 0#4 ∧ dataOf w = 0#8)) :
    firstRow w = [Instr.step.row, Instr.sample.row, (Instr.reset false).row].find? (fun r => r.hit w) := by
  have hmiss := find_busRows_miss (rest := [Instr.sample.row, (Instr.reset false).row]) (w := w)
    (fun x => mt (hit_ofRead w x).mp fun h => hr ⟨h.1, h.2.1, h.2.2.2⟩)
    (mt (hit_rdNr52 w).mp fun h => hr ⟨h.1, h.2.1, h.2.2.2⟩)
    (mt (hit_rdWave w 0).mp fun h => hr ⟨h.1, h.2.1, h.2.2.2⟩) (mt (hit_rdUnmapped w 0).mp hr)
  rw [firstRow_of_not_write hw, readRows, List.find?_cons, hmiss]
  rfl

/-- A word that does not decode hits no row: what a hit asks of the fields is what decoding asks. -/
theorem firstRow_of_decode_error {e : DecodeError} (h : decode w = .error e) : firstRow w = none := by
  have hno : ∀ i, ¬decode w = .ok i := fun i hi => by simp [h] at hi
  simp only [decode_eq_ok_iff] at hno
  have hstep : ¬Instr.step.row.hit w = true := mt (hit_step w).mp fun ⟨hk, hz, ha, hd⟩ =>
    hno .step ⟨hz, .inl ⟨hk, ha, hd, rfl⟩⟩
  have hsample : ¬Instr.sample.row.hit w = true := mt (hit_sample w).mp fun ⟨hk, hz, ha, hd⟩ =>
    hno .sample ⟨hz, .inr (.inr (.inr (.inl ⟨hk, ha, hd, rfl⟩)))⟩
  have hreset : ¬(Instr.reset false).row.hit w = true := mt (hit_reset w false).mp fun ⟨hk, hz, ha, hd⟩ =>
    hno _ ⟨hz, .inr (.inr (.inr (.inr ⟨hk, ha, hd, rfl⟩)))⟩
  rw [firstRow_ctl (fun ⟨hk, hz⟩ => hno _ ⟨hz, .inr (.inl ⟨hk, rfl⟩)⟩)
    (fun ⟨hk, hz, hd⟩ => hno _ ⟨hz, .inr (.inr (.inl ⟨hk, hd, rfl⟩))⟩)]
  simp [hstep, hsample, hreset]

end kinds

/-- Settles O5: a word that decodes hits the row of its operation's form first, and one that does not hits none. -/
theorem decoderFollowsOpcodeTable : Obligations.DecoderFollowsOpcodeTable := by
  unfold Obligations.DecoderFollowsOpcodeTable
  intro w
  cases h : decode w with
  | error e => exact firstRow_of_decode_error h
  | ok i =>
    obtain ⟨hz, ⟨hk, ha, hd, rfl⟩ | ⟨hk, rfl⟩ | ⟨hk, hd, rfl⟩ | ⟨hk, ha, hd, rfl⟩ | ⟨hk, ha, hd, rfl⟩⟩ :=
      (decode_eq_ok_iff w i).mp h
    · exact List.find?_cons_of_pos ((hit_step w).mpr ⟨hk, hz, ha, hd⟩)
    · exact firstRow_write hz hk
    · exact firstRow_read hz hk hd
    · rw [firstRow_ctl (by simp [hk]) (by simp [hk])]
      simp [hit_step, hit_sample, hk, hz, ha, hd]
    · rw [firstRow_ctl (by simp [hk]) (by simp [hk])]
      change _ = some (Instr.reset false).row
      simp [hit_step, hit_sample, hit_reset, hk, hz, ha, hd]

end Sys2Proof
end

/-! # What an operation does, and runs of operations (20_memory.md R95; 60_exceptions.md R360, R375) -/
section
namespace Sys2Proof.Machine

/-! ### Operations -/

/-- What the block is after an operation: five forms change it, each by one function of the block; the six others keep
it. -/
inductive BlockChange (c : Config) (a : Apu) : Instr → Apu → Prop where
  | step : BlockChange c a .step (clockCycle c a)
  | reset (b : Bool) : BlockChange c a (.reset b) (resetBlock c b)
  | write (x : CtrlReg) (v : Byte) : BlockChange c a (.ofWrite x v) (wrCtrl c x v a)
  | wrNr52 (v : Byte) : BlockChange c a (.wrNr52 v) (wrNr52 v a)
  | wrWave (k : BitVec 4) (v : Byte) : BlockChange c a (.wrWave k v) (wrWave k v a)
  | none (i : Instr) : BlockChange c a i a

section forms
variable {c : Config} (hb : c.model = .base) (s : State)
include hb

theorem execWith_ofWrite (x : CtrlReg) (v : Byte) :
    execWith c (.ofWrite x v) s = s.commit (wrCtrl c x v s.apu) := by
  cases x <;> simp [execWith, refusedModel_of_base hb, Instr.ofWrite]

theorem execWith_ofRead (x : CtrlReg) : execWith c (.ofRead x) s = s.reply (.byte (readCtrl c x s.apu)) := by
  cases x <;> simp [execWith, refusedModel_of_base hb, Instr.ofRead]

/-- Under the base model an operation leaves a block and answers nothing, or answers a value and changes nothing else. -/
theorem execWith_commit_or_reply (i : Instr) :
    (∃ a, execWith c i s = s.commit a ∧ BlockChange c s.apu i a) ∨ ∃ x, execWith c i s = s.reply x := by
  have hm : ¬refusedModel c.model = true := by rw [refusedModel_of_base hb]; exact Bool.false_ne_true
  cases i.form with
  | step => exact .inl ⟨_, if_neg hm, .step⟩
  | reset b => exact .inl ⟨_, if_neg hm, .reset b⟩
  | write x v => exact .inl ⟨_, execWith_ofWrite hb s x v, .write x v⟩
  | wrNr52 v => exact .inl ⟨_, if_neg hm, .wrNr52 v⟩
  | wrWave k v => exact .inl ⟨_, if_neg hm, .wrWave k v⟩
  | wrUnmapped a v => exact .inl ⟨_, if_neg hm, .none _⟩
  | sample => exact .inr ⟨_, if_neg hm⟩
  | read x => exact .inr ⟨_, execWith_ofRead hb s x⟩
  | rdNr52 => exact .inr ⟨_, if_neg hm⟩
  | rdWave k => exact .inr ⟨_, if_neg hm⟩
  | rdUnmapped a => exact .inr ⟨_, if_neg hm⟩

/-- "Every operation with every operand value completes and leaves a defined state" (R360). -/
theorem execWith_completes (i : Instr) : ∃ (a : Apu) (l : List Answer),
    execWith c i s = .next { apu := a, trace := s.trace, answers := l ++ s.answers } ∧ l.length ≤ 1 := by
  obtain ⟨a, h, -⟩ | ⟨x, h⟩ := execWith_commit_or_reply hb s i
  · exact ⟨a, [], h, by decide⟩
  · exact ⟨s.apu, [x], h, le_refl 1⟩

end forms

theorem exec_completes (i : Instr) (s : State) : ∃ (a : Apu) (l : List Answer),
    exec i s = .next { apu := a, trace := s.trace, answers := l ++ s.answers } ∧ l.length ≤ 1 := by
  rw [← execWith_params]
  exact execWith_completes rfl s i

theorem apu_of_reply {s t : State} {o : Host.Outcome State Fault Refusal} {x : Answer} (e : o = s.reply x)
    (h : o = .next t) : t.apu = s.apu :=
  (congrArg State.apu (Host.Outcome.next.inj (e.symm.trans h))).symm

theorem blockChange_of_execWith {c : Config} {i : Instr} {s t : State} (h : execWith c i s = .next t) :
    BlockChange c s.apu i t.apu := by
  obtain ⟨a, he, ha⟩ | ⟨x, he⟩ := execWith_commit_or_reply (execWith_next h) s i
  · rwa [apu_of_commit he h]
  · rw [apu_of_reply he h]
    exact .none i

theorem blockChange_of_exec {i : Instr} {s t : State} (h : exec i s = .next t) :
    BlockChange Config.params s.apu i t.apu := blockChange_of_execWith ((execWith_params i s).trans h)

/-! ### Steps -/

theorem step_of_nil {s : State} (h : s.trace = []) : step s = .next s := by
  simp [step, h, fetch, refusedModel, Config.params]

theorem step_of_decode {s : State} {w : TraceWord} {rest : List TraceWord} {i : Instr} (h : s.trace = w :: rest)
    (hd : decode w = .ok i) : step s = exec i { s with trace := rest } := by
  simp [step, h, fetch, hd, refusedModel, Config.params]

theorem step_of_decode_error {s : State} {w : TraceWord} {rest : List TraceWord} {e : DecodeError}
    (h : s.trace = w :: rest) (hd : decode w = .error e) : step s = .refused (.badTraceWord e) := by
  simp [step, h, fetch, hd, refusedModel, Config.params]

/-- Progress: with only operations left to issue a step goes on, and takes one word. -/
theorem step_of_legalTrace {s : State} (h : legalTrace s.trace = true) :
    ∃ t : State, step s = .next t ∧ t.trace = s.trace.drop 1 := by
  cases hs : s.trace with
  | nil => exact ⟨s, step_of_nil hs, by rw [hs]; rfl⟩
  | cons w rest =>
    cases hd : decode w with
    | error e => simp [hs, legalTrace, hd, Except.toBool] at h
    | ok i =>
      obtain ⟨a, l, he, -⟩ := exec_completes i { s with trace := rest }
      exact ⟨_, (step_of_decode hs hd).trans he, rfl⟩

theorem legalTrace_drop {l : List TraceWord} (h : legalTrace l = true) (k : Nat) : legalTrace (l.drop k) = true :=
  List.all_eq_true.mpr fun w hw => List.all_eq_true.mp h w (List.mem_of_mem_drop hw)

theorem core_run_succ {s t : State} (h : step s = .next t) (k : Nat) :
    Host.Core.run core (k + 1) s = Host.Core.run core k t := by
  have hcore : core.step s = .next t := h
  simp only [Host.Core.run, hcore]

/-- Settles O9, by induction on the number of steps: a legal trace lets a step go on and is legal after it. -/
theorem legalRunsNeverStop : Obligations.LegalRunsNeverStop := by
  unfold Obligations.LegalRunsNeverStop
  intro k
  induction k with
  | zero => exact fun s _ => ⟨s, rfl, rfl⟩
  | succ k ih =>
    intro s h
    obtain ⟨t, hstep, htrace⟩ := step_of_legalTrace h
    obtain ⟨u, hrun, hu⟩ := ih t (htrace ▸ legalTrace_drop h 1)
    exact ⟨u, (core_run_succ hstep k).trans hrun, by rw [hu, htrace, List.drop_drop, Nat.add_comm]⟩

/-- Settles O6. -/
theorem stepRunsDecodedOperation : Obligations.StepRunsDecodedOperation := by
  unfold Obligations.StepRunsDecodedOperation
  exact fun _ _ _ _ => step_of_decode

/-- Settles O7. -/
theorem stepWithoutAnOperation : Obligations.StepWithoutAnOperation := by
  unfold Obligations.StepWithoutAnOperation
  exact ⟨fun _ => step_of_nil, fun _ _ _ _ => step_of_decode_error⟩

/-- Settles O8: under the base model every operation commits a block or replies a value; under the extended one it is
refused. -/
theorem everyOperationCompletes : Obligations.EveryOperationCompletes := by
  unfold Obligations.EveryOperationCompletes
  exact ⟨exec_completes, fun _ i s hb => execWith_completes hb s i,
    fun _ i s he => ⟨execWith_extended he i s, stepWith_extended he s⟩, fun _ _ _ => rfl, fun _ _ => rfl⟩

end Sys2Proof.Machine
end

/-! # A STEP, part by part (47_top_level.md R340; 44_frame_sequencer.md R261, R262)

Each statement about a `STEP` speaks of a few fields. A field is a projection that the clocks of the frame sequencer keep,
except for one of them; `fsTick_of_length`, `fsTick_of_envelope` and `fsTick_of_sweep` say once when that one acts. -/
section
namespace Sys2Proof.Machine
open Claims

/-! ### Which clocks the frame sequencer fires -/

theorem setFs_ite (p : Prop) [Decidable p] (a b : Apu) (x : FrameSeq) :
    (if p then a else b).setFs x = if p then a.setFs x else b.setFs x := apply_ite (Apu.setFs · x) p a b

theorem sweepCalculate_setFs (a : Apu) (x : FrameSeq) :
    sweepCalculate (a.setFs x) = (sweepCalculate a).setFs x := by
  unfold sweepCalculate
  simp only [setFs_ite]
  rfl

theorem clock128Hz_setFs (a : Apu) (x : FrameSeq) : clock128Hz (a.setFs x) = (clock128Hz a).setFs x := by
  unfold clock128Hz
  simp only [setFs_ite, ← sweepCalculate_setFs]
  rfl

/-- No clock reads or writes the frame sequencer's own registers. -/
theorem fsFire_setFs (s : BitVec 3) (a : Apu) (x : FrameSeq) : fsFire s (a.setFs x) = (fsFire s a).setFs x := by
  have hlen : ∀ b : Apu, lengthClocks (b.setFs x) = (lengthClocks b).setFs x := fun _ => rfl
  have henv : ∀ b : Apu, envelopeClocks (b.setFs x) = (envelopeClocks b).setFs x := fun _ => rfl
  unfold fsFire
  simp only [hlen, henv, clock128Hz_setFs, ← setFs_ite]

/-- What fires on a step (R262). -/
theorem fsFire_cases (s : BitVec 3) (a : Apu) :
    (s = 2#3 ∨ s = 6#3) ∧ fsFire s a = clock128Hz (lengthClocks a) ∨
    (s = 0#3 ∨ s = 4#3) ∧ fsFire s a = lengthClocks a ∨
    s = 7#3 ∧ fsFire s a = envelopeClocks a ∨
    (s = 1#3 ∨ s = 3#3 ∨ s = 5#3) ∧ fsFire s a = a := by
  have hs : (s = 2#3 ∨ s = 6#3) ∨ (s = 0#3 ∨ s = 4#3) ∨ s = 7#3 ∨ s = 1#3 ∨ s = 3#3 ∨ s = 5#3 := by revert s; decide
  rcases hs with h | h | h | h
  · exact .inl ⟨h, fsFire_sweep a h⟩
  · exact .inr (.inl ⟨h, by rcases h with rfl | rfl <;> rfl⟩)
  · exact .inr (.inr (.inl ⟨h, by rw [h]; rfl⟩))
  · exact .inr (.inr (.inr ⟨h, by rcases h with rfl | rfl | rfl <;> rfl⟩))

section projections
variable {β : Type} {π : Apu → β} (hfs : ∀ a x, π (a.setFs x) = π a)
include hfs

/-- A part of the block that is not the frame sequencer changes in its tick only on the 8192nd `STEP`. -/
theorem fsTick_of_fire (a : Apu) : π (fsTick a) = if frameDue a then π (fsFire a.fs.step a) else π a := by
  by_cases h : frameDue a
  · rw [if_pos h, fsTick_due a h, fsFire_setFs, hfs, hfs]
  · rw [if_neg h, fsTick_notdue a h, hfs]

/-- A part that only the length clock changes. -/
theorem fsTick_of_length (hsweep : ∀ a, π (clock128Hz a) = π a) (henv : ∀ a, π (envelopeClocks a) = π a) (a : Apu) :
    π (fsTick a) = if frameDue a ∧ a.fs.step.toNat % 2 = 0 then π (lengthClocks a) else π a := by
  rw [fsTick_of_fire hfs, ite_and]
  refine if_congr Iff.rfl ?_ rfl
  obtain ⟨h, he⟩ | ⟨h, he⟩ | ⟨h, he⟩ | ⟨h, he⟩ := fsFire_cases a.fs.step a
  · rw [he, hsweep, if_pos (by rcases h with h | h <;> rw [h] <;> rfl)]
  · rw [he, if_pos (by rcases h with h | h <;> rw [h] <;> rfl)]
  · rw [he, henv, if_neg (by rw [h]; decide)]
  · rw [he, if_neg (by rcases h with h | h | h <;> rw [h] <;> decide)]

/-- A part that only the envelope clock changes. -/
theorem fsTick_of_envelope (hlen : ∀ a, π (lengthClocks a) = π a) (hsweep : ∀ a, π (clock128Hz a) = π a) (a : Apu) :
    π (fsTick a) = if frameDue a ∧ a.fs.step = 7#3 then π (envelopeClocks a) else π a := by
  rw [fsTick_of_fire hfs, ite_and]
  refine if_congr Iff.rfl ?_ rfl
  obtain ⟨h, he⟩ | ⟨h, he⟩ | ⟨h, he⟩ | ⟨h, he⟩ := fsFire_cases a.fs.step a
  · rw [he, hsweep, hlen, if_neg (by rcases h with h | h <;> rw [h] <;> decide)]
  · rw [he, hlen, if_neg (by rcases h with h | h <;> rw [h] <;> decide)]
  · rw [he, if_pos h]
  · rw [he, if_neg (by rcases h with h | h | h <;> rw [h] <;> decide)]

/-- A part that the envelope clock keeps, and the length clock too where no sweep clock follows. -/
theorem fsTick_of_sweep (hlen : ∀ a, π (lengthClocks a) = π a) (henv : ∀ a, π (envelopeClocks a) = π a) (a : Apu) :
    π (fsTick a) =
      if frameDue a ∧ (a.fs.step = 2#3 ∨ a.fs.step = 6#3) then π (clock128Hz (lengthClocks a)) else π a := by
  rw [fsTick_of_fire hfs, ite_and]
  refine if_congr Iff.rfl ?_ rfl
  obtain ⟨h, he⟩ | ⟨h, he⟩ | ⟨h, he⟩ | ⟨h, he⟩ := fsFire_cases a.fs.step a
  · rw [he, if_pos h]
  · rw [he, hlen, if_neg (by rcases h with h | h <;> rw [h] <;> decide)]
  · rw [he, henv, if_neg (by rw [h]; decide)]
  · rw [he, if_neg (by rcases h with h | h | h <;> rw [h] <;> decide)]

/-- A part that no clock changes. -/
theorem fsTick_keeps (hlen : ∀ a, π (lengthClocks a) = π a) (hsweep : ∀ a, π (clock128Hz a) = π a)
    (henv : ∀ a, π (envelopeClocks a) = π a) (a : Apu) : π (fsTick a) = π a := by
  rw [fsTick_of_length hfs hsweep henv, hlen, ite_self]

end projections

/-- The sweep clock changes nothing of CH1 but `enabled` (41_sweep_unit.md R194). -/
theorem clock128Hz_ch1 (a : Apu) : ∃ e, (clock128Hz a).ch1 = { a.ch1 with enabled := e } := by
  have hcalc : ∀ b : Apu, ∃ e, (sweepCalculate b).ch1 = { b.ch1 with enabled := e } := fun b => by
    unfold sweepCalculate
    dsimp only
    split_ifs <;> exact ⟨_, rfl⟩
  unfold clock128Hz
  dsimp only
  split_ifs
  · exact hcalc _
  · exact ⟨_, rfl⟩
  · exact ⟨_, rfl⟩

/-- So any part of CH1 that does not depend on `enabled`. -/
theorem clock128Hz_keeps_ch1 {β : Type} {π : PulseCh → β} (h : ∀ p e, π { p with enabled := e } = π p) (a : Apu) :
    π (clock128Hz a).ch1 = π a.ch1 := by
  obtain ⟨e, he⟩ := clock128Hz_ch1 a
  rw [he, h]

/-! ### The frequency timers (40_pulse_channels.md R155; 42_wave_channel.md R223; 43_noise_channel.md R242) -/

theorem pulseClockTimer_pulse (n : PulseId) (a : Apu) : (pulseClockTimer n a).pulse n =
    { a.pulse n with
      frequencyTimer := if (a.pulse n).frequencyTimer.toNat ≤ 1 then pulseReload (a.pulseFrequency n)
        else countDown (a.pulse n).frequencyTimer
      dutyStep := if (a.pulse n).frequencyTimer.toNat ≤ 1 then (a.pulse n).dutyStep + 1#3
        else (a.pulse n).dutyStep } := by
  unfold pulseClockTimer
  simp only [countDown_eq_zero]
  split_ifs <;> exact Apu.setPulse_pulse_self ..

theorem waveClockTimer_ch3 (a : Apu) : (waveClockTimer a).ch3 =
    { a.ch3 with
      frequencyTimer := if a.ch3.frequencyTimer.toNat ≤ 1 then waveReload a.waveFrequency
        else countDown a.ch3.frequencyTimer
      position := if a.ch3.frequencyTimer.toNat ≤ 1 then a.ch3.position + 1#5 else a.ch3.position } := by
  unfold waveClockTimer
  simp only [countDown_eq_zero]
  split_ifs <;> rfl

theorem noiseClockTimer_ch4 (c : Config) (a : Apu) : (noiseClockTimer c a).ch4 =
    { a.ch4 with
      frequencyTimer := if a.ch4.frequencyTimer.toNat ≤ 1 then noiseReload c (a.reg .nr43)
        else countDown a.ch4.frequencyTimer
      lfsr := if a.ch4.frequencyTimer.toNat ≤ 1 then lfsrShift (shortWidthOf (a.reg .nr43)) a.ch4.lfsr
        else a.ch4.lfsr } := by
  unfold noiseClockTimer
  simp only [countDown_eq_zero]
  split_ifs <;> rfl

theorem clockCycle_pulse (c : Config) (a : Apu) (n : PulseId) :
    (clockCycle c a).pulse n = (pulseClockTimer n (fsTick a)).pulse n := by
  cases n
  · exact clockCycle_ch1 c a
  · exact clockCycle_ch2 c a

/-- The frame sequencer's clocks keep the frequency timer and the duty step of a pulse channel. -/
theorem fsTick_pulse_timer (a : Apu) (n : PulseId) :
    ((fsTick a).pulse n).frequencyTimer = (a.pulse n).frequencyTimer ∧
    ((fsTick a).pulse n).dutyStep = (a.pulse n).dutyStep := by
  cases n
  · exact ⟨fsTick_keeps (π := fun a => a.ch1.frequencyTimer) (fun _ _ => rfl) (fun _ => rfl)
        (clock128Hz_keeps_ch1 fun _ _ => rfl) (fun _ => rfl) a,
      fsTick_keeps (π := fun a => a.ch1.dutyStep) (fun _ _ => rfl) (fun _ => rfl)
        (clock128Hz_keeps_ch1 fun _ _ => rfl) (fun _ => rfl) a⟩
  · exact ⟨fsTick_keeps (π := fun a => a.ch2.frequencyTimer) (fun _ _ => rfl) (fun _ => rfl)
        (fun _ => by rw [clock128Hz_ch2]) (fun _ => rfl) a,
      fsTick_keeps (π := fun a => a.ch2.dutyStep) (fun _ _ => rfl) (fun _ => rfl)
        (fun _ => by rw [clock128Hz_ch2]) (fun _ => rfl) a⟩

theorem fsTick_wave_timer (a : Apu) : (fsTick a).ch3.frequencyTimer = a.ch3.frequencyTimer ∧
    (fsTick a).ch3.position = a.ch3.position :=
  ⟨fsTick_keeps (π := fun a => a.ch3.frequencyTimer) (fun _ _ => rfl) (fun _ => rfl)
      (fun _ => by rw [clock128Hz_ch3]) (fun _ => rfl) a,
    fsTick_keeps (π := fun a => a.ch3.position) (fun _ _ => rfl) (fun _ => rfl)
      (fun _ => by rw [clock128Hz_ch3]) (fun _ => rfl) a⟩

theorem fsTick_noise_timer (a : Apu) : (fsTick a).ch4.frequencyTimer = a.ch4.frequencyTimer ∧
    (fsTick a).ch4.lfsr = a.ch4.lfsr :=
  ⟨fsTick_keeps (π := fun a => a.ch4.frequencyTimer) (fun _ _ => rfl) (fun _ => rfl)
      (fun _ => by rw [clock128Hz_ch4]) (fun _ => rfl) a,
    fsTick_keeps (π := fun a => a.ch4.lfsr) (fun _ _ => rfl) (fun _ => rfl)
      (fun _ => by rw [clock128Hz_ch4]) (fun _ => rfl) a⟩

section timers
variable (c : Config) (a : Apu)

/-- A pulse channel's timer and duty step after a `STEP`; the frequency is that of the stored bytes the `STEP` leaves. -/
theorem clockCycle_pulse_timer (n : PulseId) :
    ((clockCycle c a).pulse n).frequencyTimer =
      (if (a.pulse n).frequencyTimer.toNat ≤ 1 then pulseReload ((clockCycle c a).pulseFrequency n)
        else countDown (a.pulse n).frequencyTimer) ∧
    ((clockCycle c a).pulse n).dutyStep =
      (if (a.pulse n).frequencyTimer.toNat ≤ 1 then (a.pulse n).dutyStep + 1#3 else (a.pulse n).dutyStep) := by
  obtain ⟨ht, hd⟩ := fsTick_pulse_timer a n
  have hf : (clockCycle c a).pulseFrequency n = (fsTick a).pulseFrequency n :=
    Apu.pulseFrequency_congr (fun x => by simp only [Apu.reg, clockCycle_regs]) n
  rw [clockCycle_pulse, pulseClockTimer_pulse, ht, hd, hf]
  exact ⟨rfl, rfl⟩

theorem clockCycle_waveFrequency : (fsTick a).waveFrequency = a.waveFrequency := by
  unfold Apu.waveFrequency
  rw [fsTick_reg a (by decide) (by decide), fsTick_reg a (by decide) (by decide)]

theorem clockCycle_wave_timer :
    (clockCycle c a).ch3.frequencyTimer =
      (if a.ch3.frequencyTimer.toNat ≤ 1 then waveReload a.waveFrequency else countDown a.ch3.frequencyTimer) ∧
    (clockCycle c a).ch3.position =
      (if a.ch3.frequencyTimer.toNat ≤ 1 then a.ch3.position + 1#5 else a.ch3.position) := by
  obtain ⟨ht, hp⟩ := fsTick_wave_timer a
  rw [clockCycle_ch3, waveClockTimer_ch3, ht, hp, clockCycle_waveFrequency]
  exact ⟨rfl, rfl⟩

theorem clockCycle_noise_timer :
    (clockCycle c a).ch4.frequencyTimer =
      (if a.ch4.frequencyTimer.toNat ≤ 1 then noiseReload c (a.reg .nr43) else countDown a.ch4.frequencyTimer) ∧
    (clockCycle c a).ch4.lfsr =
      (if a.ch4.frequencyTimer.toNat ≤ 1 then lfsrShift (shortWidthOf (a.reg .nr43)) a.ch4.lfsr else a.ch4.lfsr) := by
  obtain ⟨ht, hl⟩ := fsTick_noise_timer a
  rw [clockCycle_ch4, noiseClockTimer_ch4, ht, hl, fsTick_reg a (by decide) (by decide)]
  exact ⟨rfl, rfl⟩

end timers

theorem pulseReload_frequency (lo hi : Byte) : (pulseReload (freqOf lo hi)).toNat = (2048 - frequency lo hi) * 4 := by
  rw [pulseReload_toNat, freqOf_toNat]
  rfl

theorem waveReload_frequency (lo hi : Byte) : (waveReload (freqOf lo hi)).toNat = (2048 - frequency lo hi) * 2 := by
  rw [waveReload_toNat, freqOf_toNat]
  rfl

/-- `NOISE_DIVISOR[c] << s` in numbers, with the divisors of R126. -/
theorem noiseReload_params (v : Byte) :
    (noiseReload Config.params v).toNat = divisors.getD (v.toNat % 8) 0 * 2 ^ (v.toNat / 16) := by
  have hdiv : ∀ d : BitVec 3, Config.params.noiseDivisor d = divisors.getD d.toNat 0 := by decide
  rw [noiseReload_toNat params_divisor_le, hdiv, divisorCodeOf_toNat, clockShiftOf_toNat]

theorem toNat_add_one {w : Nat} (x : BitVec w) : (x + 1#w).toNat = (x.toNat + 1) % 2 ^ w := by
  simp [BitVec.toNat_add]

/-- Settles O37: the frame sequencer's part comes first and keeps the timer, so the timer's rule sees the bytes a sweep
commit leaves. -/
theorem pulseTimersInStep : Obligations.PulseTimersInStep := by
  unfold Obligations.PulseTimersInStep
  intro n s
  refine ⟨_, exec_step s, ?_⟩
  obtain ⟨ht, hd⟩ := clockCycle_pulse_timer Config.params s.apu n
  dsimp only
  rw [ht, hd]
  split_ifs
  · exact ⟨pulseReload_frequency _ _, toNat_add_one _⟩
  · exact ⟨countDown_toNat _, rfl⟩

/-- Settles O38: as for the pulse timers; no sweep writes CH3's frequency. -/
theorem waveTimerInStep : Obligations.WaveTimerInStep := by
  unfold Obligations.WaveTimerInStep
  intro s
  refine ⟨_, exec_step s, ?_⟩
  obtain ⟨ht, hp⟩ := clockCycle_wave_timer Config.params s.apu
  dsimp only
  rw [ht, hp]
  split_ifs
  · exact ⟨waveReload_frequency _ _, toNat_add_one _⟩
  · exact ⟨countDown_toNat _, rfl⟩

/-- Settles O39: as for the other timers, with the shift of the LFSR bit by bit. -/
theorem noiseTimerInStep : Obligations.NoiseTimerInStep := by
  unfold Obligations.NoiseTimerInStep
  intro s
  refine ⟨_, exec_step s, ?_⟩
  obtain ⟨ht, hl⟩ := clockCycle_noise_timer Config.params s.apu
  dsimp only
  rw [ht, hl]
  split_ifs
  · exact ⟨noiseReload_params _, fun i hi => lfsrShift_getLsbD _ _ i hi⟩
  · exact ⟨countDown_toNat _, rfl⟩

/-! ### The frame sequencer (44_frame_sequencer.md R261, R265) -/

theorem clockCycle_fs_due (c : Config) (a : Apu) (h : frameDue a) :
    (clockCycle c a).fs = ⟨8192#14, a.fs.step + 1#3⟩ := by rw [clockCycle_fs, fsTick_due a h]; rfl

theorem clockCycle_fs_notdue (c : Config) (a : Apu) (h : ¬frameDue a) :
    (clockCycle c a).fs = ⟨a.fs.counter - 1#14, a.fs.step⟩ := by rw [clockCycle_fs, fsTick_notdue a h]; rfl

theorem frameDue_iff (a : Apu) : frameDue a ↔ a.fs.counter.toNat = 1 := by
  rw [frameDue, ← BitVec.toNat_inj]
  rfl

/-- The frame sequencer in a `STEP`, in numbers. -/
theorem clockCycle_fs_toNat (c : Config) (a : Apu) (h : 1 ≤ a.fs.counter.toNat) :
    if a.fs.counter.toNat = 1 then
      (clockCycle c a).fs.counter.toNat = 8192 ∧ (clockCycle c a).fs.step.toNat = (a.fs.step.toNat + 1) % 8
    else (clockCycle c a).fs.counter.toNat = a.fs.counter.toNat - 1 ∧ (clockCycle c a).fs.step = a.fs.step := by
  split_ifs with h1
  · rw [clockCycle_fs_due c a ((frameDue_iff a).mpr h1)]
    exact ⟨rfl, toNat_add_one _⟩
  · rw [clockCycle_fs_notdue c a (mt (frameDue_iff a).mp h1)]
    exact ⟨BitVec.toNat_sub_of_le h, rfl⟩

/-- Settles O40. -/
theorem frameSequencerInStep : Obligations.FrameSequencerInStep := by
  unfold Obligations.FrameSequencerInStep
  intro s h
  refine ⟨_, exec_step s, ?_⟩
  dsimp only
  exact clockCycle_fs_toNat Config.params s.apu h

end Sys2Proof.Machine
end

/-! # The clocks of a STEP: length, envelope, sweep (40_pulse_channels.md R157, R160; 41_sweep_unit.md R194, R195) -/
section
namespace Sys2Proof.Machine
open Claims

/-! ### Length -/

/-- Parts of a channel that its frequency timer leaves alone are, after a `STEP`, as the frame sequencer leaves them. -/
theorem clockCycle_keeps_ch1 {β : Type} {π : PulseCh → β}
    (h : ∀ p t d, π { p with frequencyTimer := t, dutyStep := d } = π p) (c : Config) (a : Apu) :
    π (clockCycle c a).ch1 = π (fsTick a).ch1 := by
  rw [clockCycle_ch1]
  exact (congrArg π (pulseClockTimer_pulse .ch1 (fsTick a))).trans (h ..)

theorem clockCycle_keeps_ch2 {β : Type} {π : PulseCh → β}
    (h : ∀ p t d, π { p with frequencyTimer := t, dutyStep := d } = π p) (c : Config) (a : Apu) :
    π (clockCycle c a).ch2 = π (fsTick a).ch2 := by
  rw [clockCycle_ch2]
  exact (congrArg π (pulseClockTimer_pulse .ch2 (fsTick a))).trans (h ..)

theorem clockCycle_keeps_wave {β : Type} {π : WaveCh → β}
    (h : ∀ p t d, π { p with frequencyTimer := t, position := d } = π p) (c : Config) (a : Apu) :
    π (clockCycle c a).ch3 = π (fsTick a).ch3 := by
  rw [clockCycle_ch3, waveClockTimer_ch3, h]

theorem clockCycle_keeps_noise {β : Type} {π : NoiseCh → β}
    (h : ∀ p t l, π { p with frequencyTimer := t, lfsr := l } = π p) (c : Config) (a : Apu) :
    π (clockCycle c a).ch4 = π (fsTick a).ch4 := by
  rw [clockCycle_ch4, noiseClockTimer_ch4, h]

theorem clockCycle_lengthCounter (c : Config) (n : ChanId) (a : Apu) :
    lengthCounter n (clockCycle c a) = lengthCounter n (fsTick a) := by
  cases n
  · exact clockCycle_keeps_ch1 (π := fun p => p.lengthCounter.toNat) (fun _ _ _ => rfl) c a
  · exact clockCycle_keeps_ch2 (π := fun p => p.lengthCounter.toNat) (fun _ _ _ => rfl) c a
  · exact clockCycle_keeps_wave (π := fun p => p.lengthCounter.toNat) (fun _ _ _ => rfl) c a
  · exact clockCycle_keeps_noise (π := fun p => p.lengthCounter.toNat) (fun _ _ _ => rfl) c a

/-- The 256 Hz clock on one channel, in numbers (R157). -/
theorem clock256Hz_toNat (n : ChanId) (a : Apu) :
    lengthCounter n (clock256Hz n a) = (if a.lengthEnable n then lengthCounter n a - 1 else lengthCounter n a) ∧
    (clock256Hz n a).enabled n = (a.enabled n && !(a.lengthEnable n && decide (lengthCounter n a = 1))) := by
  cases n <;> exact lengthTick_spec ..

theorem lengthClocks_lengthCounter (n : ChanId) (a : Apu) :
    lengthCounter n (lengthClocks a) = if a.lengthEnable n then lengthCounter n a - 1 else lengthCounter n a := by
  rw [← (clock256Hz_toNat n a).1]
  cases n <;> rfl

theorem clock128Hz_lengthCounter (n : ChanId) (a : Apu) : lengthCounter n (clock128Hz a) = lengthCounter n a := by
  cases n
  · exact clock128Hz_keeps_ch1 (π := fun p => p.lengthCounter.toNat) (fun _ _ => rfl) a
  · exact congrArg (fun p : PulseCh => p.lengthCounter.toNat) (clock128Hz_ch2 a)
  · exact congrArg (fun p : WaveCh => p.lengthCounter.toNat) (clock128Hz_ch3 a)
  · exact congrArg (fun p : NoiseCh => p.lengthCounter.toNat) (clock128Hz_ch4 a)

/-- A length counter after a `STEP`. -/
theorem clockCycle_lengthCounter_eq (c : Config) (n : ChanId) (a : Apu) :
    lengthCounter n (clockCycle c a) =
      if frameDue a ∧ a.fs.step.toNat % 2 = 0 ∧ a.lengthEnable n = true then lengthCounter n a - 1
      else lengthCounter n a := by
  rw [clockCycle_lengthCounter, fsTick_of_length (π := lengthCounter n) (fun _ _ => by cases n <;> rfl)
    (clock128Hz_lengthCounter n) (fun _ => by cases n <;> rfl), lengthClocks_lengthCounter]
  simp only [ite_and]

/-- The flags of CH2 to CH4 after a `STEP`: the length clock is the only one that clears them. -/
theorem clockCycle_enabled_iff (c : Config) {n : ChanId} (hn : n ≠ .ch1) (a : Apu) :
    (clockCycle c a).enabled n = true ↔ a.enabled n = true ∧
      ¬(frameDue a ∧ a.fs.step.toNat % 2 = 0 ∧ a.lengthEnable n = true ∧ lengthCounter n a = 1) := by
  rw [clockCycle_enabled, fsTick_of_length (π := fun b => b.enabled n) (fun b x => setFs_enabled b x n)
    (fun b => clock128Hz_enabled b n hn) (fun b => envelopeClocks_enabled b n),
    lengthClocks_enabled n a (lengthCounter n a) (by cases n <;> rfl)]
  by_cases h : frameDue a ∧ a.fs.step.toNat % 2 = 0
  · rw [if_pos h]
    cases a.lengthEnable n <;> simp [eq_true h.1, h.2]
  · rw [if_neg h]
    exact (and_iff_left fun ⟨h1, h2, _⟩ => h ⟨h1, h2⟩).symm

/-- Settles O41. -/
theorem lengthClockInStep : Obligations.LengthClockInStep := by
  unfold Obligations.LengthClockInStep
  intro n s
  refine ⟨_, exec_step s, ?_⟩
  dsimp only
  exact ⟨clockCycle_lengthCounter_eq _ n s.apu, fun hn => clockCycle_enabled_iff _ hn s.apu⟩

/-! ### Envelope -/

theorem clockCycle_envelope (c : Config) (n : EnvId) (a : Apu) :
    envTimer n (clockCycle c a) = envTimer n (fsTick a) ∧ volume n (clockCycle c a) = volume n (fsTick a) := by
  cases n
  · exact ⟨clockCycle_keeps_ch1 (π := fun p => p.envTimer.toNat) (fun _ _ _ => rfl) c a,
      clockCycle_keeps_ch1 (π := fun p => p.currentVolume.toNat) (fun _ _ _ => rfl) c a⟩
  · exact ⟨clockCycle_keeps_ch2 (π := fun p => p.envTimer.toNat) (fun _ _ _ => rfl) c a,
      clockCycle_keeps_ch2 (π := fun p => p.currentVolume.toNat) (fun _ _ _ => rfl) c a⟩
  · exact ⟨clockCycle_keeps_noise (π := fun p => p.envTimer.toNat) (fun _ _ _ => rfl) c a,
      clockCycle_keeps_noise (π := fun p => p.currentVolume.toNat) (fun _ _ _ => rfl) c a⟩

theorem clock128Hz_envelope (n : EnvId) (a : Apu) :
    envTimer n (clock128Hz a) = envTimer n a ∧ volume n (clock128Hz a) = volume n a := by
  cases n
  · exact ⟨clock128Hz_keeps_ch1 (π := fun p => p.envTimer.toNat) (fun _ _ => rfl) a,
      clock128Hz_keeps_ch1 (π := fun p => p.currentVolume.toNat) (fun _ _ => rfl) a⟩
  · exact ⟨congrArg (fun p : PulseCh => p.envTimer.toNat) (clock128Hz_ch2 a),
      congrArg (fun p : PulseCh => p.currentVolume.toNat) (clock128Hz_ch2 a)⟩
  · exact ⟨congrArg (fun p : NoiseCh => p.envTimer.toNat) (clock128Hz_ch4 a),
      congrArg (fun p : NoiseCh => p.currentVolume.toNat) (clock128Hz_ch4 a)⟩

theorem fsTick_envelope (n : EnvId) (a : Apu) :
    envTimer n (fsTick a) =
      (if frameDue a ∧ a.fs.step = 7#3 then envTimer n (envelopeClocks a) else envTimer n a) ∧
    volume n (fsTick a) = (if frameDue a ∧ a.fs.step = 7#3 then volume n (envelopeClocks a) else volume n a) :=
  ⟨fsTick_of_envelope (π := envTimer n) (fun _ _ => by cases n <;> rfl) (fun _ => by cases n <;> rfl)
      (fun b => (clock128Hz_envelope n b).1) a,
    fsTick_of_envelope (π := volume n) (fun _ _ => by cases n <;> rfl) (fun _ => by cases n <;> rfl)
      (fun b => (clock128Hz_envelope n b).2) a⟩

/-- The envelope rule (R160) in numbers. -/
theorem envTick_toNat (r : Byte) (t : BitVec 3) (v : BitVec 4) :
    if r.toNat % 8 ≠ 0 then
      if t.toNat ≤ 1 then
        (envTick r t v).1.toNat = r.toNat % 8 ∧
        (envTick r t v).2.toNat = if r.getLsbD 3 then min 15 (v.toNat + 1) else v.toNat - 1
      else (envTick r t v).1.toNat = t.toNat - 1 ∧ (envTick r t v).2.toNat = v.toNat
    else (envTick r t v).1.toNat = t.toNat ∧ (envTick r t v).2.toNat = v.toNat := by
  have hpace : paceOf r = 0#3 ↔ r.toNat % 8 = 0 := by rw [← BitVec.toNat_inj, paceOf_toNat]; rfl
  obtain ⟨hp, he⟩ | ⟨hp, ht, he⟩ | ⟨hp, ht, he⟩ := envTick_cases r t v
  · rw [he, if_neg (not_not.mpr (hpace.mp hp))]
    exact ⟨rfl, rfl⟩
  · rw [he, if_pos (mt hpace.mpr hp), if_pos ht]
    exact ⟨paceOf_toNat r, volumeStep_toNat _ v⟩
  · rw [he, if_pos (mt hpace.mpr hp), if_neg (by omega)]
    exact ⟨countDown_toNat t, rfl⟩

/-- The 64 Hz clock on one channel, in numbers. -/
theorem envelopeClocks_toNat (n : EnvId) (a : Apu) :
    if (envByte n a).toNat % 8 ≠ 0 then
      if envTimer n a ≤ 1 then
        envTimer n (envelopeClocks a) = (envByte n a).toNat % 8 ∧
        volume n (envelopeClocks a) = if (envByte n a).getLsbD 3 then min 15 (volume n a + 1) else volume n a - 1
      else envTimer n (envelopeClocks a) = envTimer n a - 1 ∧ volume n (envelopeClocks a) = volume n a
    else envTimer n (envelopeClocks a) = envTimer n a ∧ volume n (envelopeClocks a) = volume n a := by
  cases n <;> exact envTick_toNat ..

/-- With `pace` 0 the envelope stands still. -/
theorem clockCycle_envelope_of_pace_zero (c : Config) {n : EnvId} {a : Apu} (h : (envByte n a).toNat % 8 = 0) :
    envTimer n (clockCycle c a) = envTimer n a ∧ volume n (clockCycle c a) = volume n a := by
  have henv := envelopeClocks_toNat n a
  rw [if_neg (not_not.mpr h)] at henv
  rw [(clockCycle_envelope c n a).1, (clockCycle_envelope c n a).2, (fsTick_envelope n a).1, (fsTick_envelope n a).2,
    henv.1, henv.2, ite_self, ite_self]
  exact ⟨rfl, rfl⟩

/-- Settles O42. -/
theorem envelopeClockInStep : Obligations.EnvelopeClockInStep := by
  unfold Obligations.EnvelopeClockInStep
  intro n s
  refine ⟨_, exec_step s, ?_⟩
  obtain ⟨ht, hv⟩ := clockCycle_envelope Config.params n s.apu
  obtain ⟨hft, hfv⟩ := fsTick_envelope n s.apu
  dsimp only
  rw [ht, hv, hft, hfv]
  by_cases hdue : frameDue s.apu ∧ s.apu.fs.step = 7#3
  · have hpace : frameDue s.apu ∧ s.apu.fs.step = 7#3 ∧ (envByte n s.apu).toNat % 8 ≠ 0 ↔
        (envByte n s.apu).toNat % 8 ≠ 0 := by rw [← and_assoc]; exact and_iff_right hdue
    simp only [if_pos hdue, hpace]
    exact envelopeClocks_toNat n s.apu
  · rw [if_neg hdue, if_neg hdue, if_neg fun h => hdue ⟨h.1, h.2.1⟩]
    exact ⟨rfl, rfl⟩

/-! ### Sweep -/

/-- The frequency a 128 Hz clock would compute, exactly. -/
abbrev newFrequency (a : Apu) : Nat := swept a.sweep.shadowFrequency.toNat a.regs.nr10

/-- A calculation that fits and has a shift commits its result. -/
abbrev sweepCommits (a : Apu) : Prop := newFrequency a ≤ 2047 ∧ a.regs.nr10.toNat % 8 ≠ 0

/-- A calculation disables CH1 when it overflows, or when it commits and the next one overflows. -/
abbrev sweepDisables (a : Apu) : Prop :=
  newFrequency a > 2047 ∨ a.regs.nr10.toNat % 8 ≠ 0 ∧ swept (newFrequency a) a.regs.nr10 > 2047

/-- What a calculation leaves (R194, R195): `b` is the block after it. -/
structure SweepResult (a b : Apu) (calculates : Prop) : Prop where
  commit : calculates ∧ sweepCommits a → b.sweep.shadowFrequency.toNat = newFrequency a ∧
    b.regs.nr13.toNat = newFrequency a % 256 ∧ b.regs.nr14.toNat = a.regs.nr14.toNat / 8 * 8 + newFrequency a / 256
  keep : ¬(calculates ∧ sweepCommits a) → b.sweep.shadowFrequency = a.sweep.shadowFrequency ∧ b.regs = a.regs
  enabled : b.ch1.enabled = true ↔ a.ch1.enabled = true ∧ ¬(calculates ∧ sweepDisables a)
  timer : b.sweep.sweepTimer = a.sweep.sweepTimer
  armed : b.sweep.sweepEnabled = a.sweep.sweepEnabled

theorem sweepCalculate_result (a : Apu) : SweepResult a (sweepCalculate a) True := by
  have hnew : sweepCalc a.sweep.shadowFrequency a.regs.nr10 = newFrequency a := sweepCalc_eq ..
  rcases sweepCalculate_cases a with ⟨hover, he⟩ | ⟨hfit, hshift, he⟩ | ⟨f, hf, hshift, he⟩
  · rw [hnew] at hover
    rw [he]
    exact
      { commit := fun h => absurd h.2.1 (by omega)
        keep := fun _ => ⟨rfl, rfl⟩
        enabled := iff_of_false Bool.false_ne_true fun h => h.2 ⟨trivial, .inl hover⟩
        timer := rfl
        armed := rfl }
  · rw [hnew] at hfit
    rw [sweepShift_eq_zero] at hshift
    rw [he]
    exact
      { commit := fun h => absurd hshift h.2.2
        keep := fun _ => ⟨rfl, rfl⟩
        enabled := (and_iff_left fun h => h.2.elim (by omega) fun h => h.1 hshift).symm
        timer := rfl
        armed := rfl }
  · rw [hnew] at hf
    have hshift : a.regs.nr10.toNat % 8 ≠ 0 := mt (sweepShift_eq_zero a).mpr hshift
    have hfit : newFrequency a ≤ 2047 := by have := f.isLt; omega
    have hnext : sweepCalc f a.regs.nr10 = swept (newFrequency a) a.regs.nr10 := hf ▸ sweepCalc_eq ..
    have h13 := sweepCommit_nr13 f a
    have h14 := sweepCommit_nr14 f a
    rw [hf] at h13 h14
    rw [he, hnext]
    by_cases hover : swept (newFrequency a) a.regs.nr10 > 2047
    · rw [if_pos hover]
      exact
        { commit := fun _ => ⟨hf, h13, h14⟩
          keep := fun h => absurd ⟨trivial, hfit, hshift⟩ h
          enabled := iff_of_false Bool.false_ne_true fun h => h.2 ⟨trivial, .inr ⟨hshift, hover⟩⟩
          timer := rfl
          armed := rfl }
    · rw [if_neg hover]
      exact
        { commit := fun _ => ⟨hf, h13, h14⟩
          keep := fun h => absurd ⟨trivial, hfit, hshift⟩ h
          enabled := (and_iff_left fun h => h.2.elim (by omega) fun h => hover h.2).symm
          timer := rfl
          armed := rfl }

/-- The 128 Hz clock makes a calculation: the timer expires, the period is not 0 and the unit is enabled (R194). -/
abbrev sweepCalculates (a : Apu) : Prop :=
  a.sweep.sweepTimer.toNat ≤ 1 ∧ period a.regs.nr10 ≠ 0 ∧ a.sweep.sweepEnabled = true

/-- The sweep timer's part of the 128 Hz clock. -/
def sweepTimerTick (a : Apu) : Apu :=
  a.setSweep { a.sweep with
    sweepTimer := if a.sweep.sweepTimer.toNat ≤ 1 then sweepReload a.sweepPeriod else countDown a.sweep.sweepTimer }

theorem clock128Hz_eq (a : Apu) :
    clock128Hz a = if sweepCalculates a then sweepCalculate (sweepTimerTick a) else sweepTimerTick a := by
  have hperiod : a.sweepPeriod = 0#3 ↔ period a.regs.nr10 = 0 := sweepPeriod_eq_zero a
  unfold clock128Hz sweepTimerTick
  dsimp only
  by_cases ht : a.sweep.sweepTimer.toNat ≤ 1
  · rw [if_pos ((countDown_eq_zero _).mpr ht), if_pos ht]
    exact if_congr ((and_congr (not_congr hperiod) Iff.rfl).trans (and_iff_right ht).symm) rfl rfl
  · rw [if_neg (mt (countDown_eq_zero _).mp ht), if_neg ht, if_neg fun h => ht h.1]

theorem sweepTimerTick_toNat (a : Apu) : (sweepTimerTick a).sweep.sweepTimer.toNat =
    if a.sweep.sweepTimer.toNat ≤ 1 then (if period a.regs.nr10 = 0 then 8 else period a.regs.nr10)
    else a.sweep.sweepTimer.toNat - 1 := by
  have hreload : (sweepReload a.sweepPeriod).toNat =
      if period a.regs.nr10 = 0 then 8 else period a.regs.nr10 := by
    rw [sweepReload_toNat, Apu.sweepPeriod, sweepPeriodOf_toNat]
    rfl
  rw [← hreload, ← countDown_toNat, ← apply_ite BitVec.toNat]
  rfl

/-- What the 128 Hz clock leaves, but for the timer. -/
theorem clock128Hz_result (a : Apu) : SweepResult (sweepTimerTick a) (clock128Hz a) (sweepCalculates a) := by
  rw [clock128Hz_eq]
  by_cases h : sweepCalculates a
  · rw [if_pos h, eq_true h]
    exact sweepCalculate_result _
  · rw [if_neg h, eq_false h]
    exact ⟨fun h => h.1.elim, fun _ => ⟨rfl, rfl⟩, (and_iff_left fun h => h.1).symm, rfl, rfl⟩

/-- This `STEP` fires the 128 Hz clock. -/
abbrev sweepFires (a : Apu) : Prop := frameDue a ∧ (a.fs.step = 2#3 ∨ a.fs.step = 6#3)

/-- The sweep unit and the stored bytes after a `STEP`. -/
theorem clockCycle_sweep_regs (c : Config) (a : Apu) :
    (clockCycle c a).sweep = (if sweepFires a then (clock128Hz (lengthClocks a)).sweep else a.sweep) ∧
    (clockCycle c a).regs = (if sweepFires a then (clock128Hz (lengthClocks a)).regs else a.regs) := by
  rw [clockCycle_sweep, clockCycle_regs]
  exact ⟨fsTick_of_sweep (π := Apu.sweep) (fun _ _ => rfl) (fun _ => rfl) (fun _ => rfl) a,
    fsTick_of_sweep (π := Apu.regs) (fun _ _ => rfl) (fun _ => rfl) (fun _ => rfl) a⟩

/-- CH1's flag after the length clock of a `STEP`, where one fires. -/
abbrev lengthKeepsCh1 (a : Apu) : Prop :=
  ¬(frameDue a ∧ a.fs.step.toNat % 2 = 0 ∧ a.lengthEnable .ch1 = true ∧ a.ch1.lengthCounter = 1#7)

theorem lengthClocks_ch1_enabled (a : Apu) : (lengthClocks a).enabled .ch1 = true ↔
    a.ch1.enabled = true ∧ ¬(a.lengthEnable .ch1 = true ∧ a.ch1.lengthCounter = 1#7) := by
  have hone : a.ch1.lengthCounter = 1#7 ↔ a.ch1.lengthCounter.toNat = 1 := by rw [← BitVec.toNat_inj]; rfl
  rw [lengthClocks_enabled .ch1 a _ rfl, hone]
  cases a.lengthEnable .ch1 <;> simp [Apu.enabled]

theorem clock128Hz_ch1_enabled (a : Apu) : (clock128Hz (lengthClocks a)).enabled .ch1 = true ↔
    (lengthClocks a).enabled .ch1 = true ∧ ¬(sweepCalculates a ∧ sweepDisables a) :=
  (clock128Hz_result (lengthClocks a)).enabled

/-- CH1's flag after a `STEP`: the length clock or the sweep clock may clear it. -/
theorem clockCycle_ch1_enabled (c : Config) (a : Apu) : (clockCycle c a).ch1.enabled = true ↔
    a.ch1.enabled = true ∧ lengthKeepsCh1 a ∧ ¬((sweepFires a ∧ sweepCalculates a) ∧ sweepDisables a) := by
  have hfire := fsTick_of_fire (π := fun b => b.enabled .ch1) (fun _ _ => rfl) a
  refine (Iff.of_eq (congrArg (· = true) ((clockCycle_enabled c a .ch1).trans hfire))).trans ?_
  by_cases hdue : frameDue a
  · rw [if_pos hdue]
    have hd := eq_true hdue
    rcases fsFire_cases a.fs.step a with ⟨h, he⟩ | ⟨h, he⟩ | ⟨h, he⟩ | ⟨h, he⟩
    · have heven : a.fs.step.toNat % 2 = 0 := by rcases h with h | h <;> rw [h] <;> rfl
      rw [he, clock128Hz_ch1_enabled, lengthClocks_ch1_enabled, lengthKeepsCh1, sweepFires]
      simp only [hd, heven, h, true_and, and_assoc]
    · have heven : a.fs.step.toNat % 2 = 0 := by rcases h with h | h <;> rw [h] <;> rfl
      have hno : ¬(a.fs.step = 2#3 ∨ a.fs.step = 6#3) := by rcases h with h | h <;> rw [h] <;> decide
      rw [he, lengthClocks_ch1_enabled, lengthKeepsCh1, sweepFires]
      simp only [hd, heven, hno, true_and, false_and, not_false_iff, and_true]
    · have hodd : ¬a.fs.step.toNat % 2 = 0 := by rw [h]; decide
      have hno : ¬(a.fs.step = 2#3 ∨ a.fs.step = 6#3) := by rw [h]; decide
      rw [he, envelopeClocks_enabled, lengthKeepsCh1, sweepFires]
      simp only [hodd, hno, false_and, and_false, not_false_iff, and_true]
      rfl
    · have hodd : ¬a.fs.step.toNat % 2 = 0 := by rcases h with h | h | h <;> rw [h] <;> decide
      have hno : ¬(a.fs.step = 2#3 ∨ a.fs.step = 6#3) := by rcases h with h | h | h <;> rw [h] <;> decide
      rw [he, lengthKeepsCh1, sweepFires]
      simp only [hodd, hno, false_and, and_false, not_false_iff, and_true]
      rfl
  · rw [if_neg hdue]
    exact (and_iff_left ⟨fun h => hdue h.1, fun h => hdue h.1.1.1⟩).symm

/-- Settles O43: the sweep clock acts on the sweep unit and the stored bytes, which the length clock before it keeps. -/
theorem sweepClockInStep : Obligations.SweepClockInStep := by
  unfold Obligations.SweepClockInStep
  intro s
  refine ⟨_, exec_step s, ?_⟩
  obtain ⟨hsweep, hregs⟩ := clockCycle_sweep_regs Config.params s.apu
  have hres := clock128Hz_result (lengthClocks s.apu)
  dsimp only
  rw [hsweep, hregs]
  refine ⟨fun hf => ?timer, fun hf => if_neg hf, fun hc => ?commits, fun hc => ?keeps, ?enabled⟩
  case timer =>
    rw [if_pos hf, hres.timer]
    exact sweepTimerTick_toNat _
  case commits =>
    have hf : sweepFires s.apu := hc.1.1
    rw [if_pos hf, if_pos hf]
    exact hres.commit ⟨hc.1.2, hc.2⟩
  case keeps =>
    by_cases hf : sweepFires s.apu
    · rw [if_pos hf, if_pos hf]
      exact hres.keep fun h => hc ⟨⟨hf, h.1⟩, h.2⟩
    · rw [if_neg hf, if_neg hf]
      exact ⟨rfl, rfl⟩
  case enabled => exact clockCycle_ch1_enabled Config.params s.apu

end Sys2Proof.Machine
end

/-! # The frame of a STEP, the outputs and the sampler (47_top_level.md R340; 46_mixer.md R315 to R318) -/
section
namespace Sys2Proof.Machine
open Claims

/-! ### What a STEP leaves unchanged -/

theorem clockCycle_sweepEnabled (c : Config) (a : Apu) :
    (clockCycle c a).sweep.sweepEnabled = a.sweep.sweepEnabled := by
  rw [(clockCycle_sweep_regs c a).1]
  split_ifs
  · exact (clock128Hz_result (lengthClocks a)).armed
  · rfl

/-- A commit writes the low three bits of NR14 only (41_sweep_unit.md R195). -/
theorem clockCycle_nr14_high (c : Config) (a : Apu) :
    (clockCycle c a).regs.nr14.toNat / 8 = a.regs.nr14.toNat / 8 := by
  rw [(clockCycle_sweep_regs c a).2]
  split_ifs
  · have hres := clock128Hz_result (lengthClocks a)
    by_cases hc : sweepCalculates a ∧ sweepCommits a
    · obtain ⟨-, -, h14⟩ := hres.commit hc
      have hfit : newFrequency (sweepTimerTick (lengthClocks a)) ≤ 2047 := hc.2.1
      have hbyte : (sweepTimerTick (lengthClocks a)).regs.nr14 = a.regs.nr14 := rfl
      rw [h14, hbyte]
      omega
    · exact congrArg (fun r : RegFile => r.nr14.toNat / 8) (hres.keep hc).2
  · rfl

/-- A `STEP` enables no channel. -/
theorem enabled_of_clockCycle_enabled {c : Config} {a : Apu} {n : ChanId} (h : (clockCycle c a).enabled n = true) :
    a.enabled n = true := by
  by_cases hn : n = .ch1
  · subst hn
    exact ((clockCycle_ch1_enabled c a).mp h).1
  · exact ((clockCycle_enabled_iff c hn a).mp h).1

/-- Settles O36. -/
theorem stepFrame : Obligations.StepFrame := by
  unfold Obligations.StepFrame
  intro s
  refine ⟨_, exec_step s, ?_⟩
  dsimp only
  exact ⟨rfl, rfl, clockCycle_masterPower .., clockCycle_waveRam .., clockCycle_sweepEnabled ..,
    fun x h13 h14 => clockCycle_reg _ s.apu h13 h14, clockCycle_nr14_high .., fun n => enabled_of_clockCycle_enabled⟩

/-! ### The channel outputs -/

theorem pulseOutput_audible (c : Config) {n : PulseId} {a : Apu} (h : a.audible n.chan = true) :
    pulseOutput c n a =
      if c.dutyTable (dutyPatternOf (a.reg n.nrx1)) (a.pulse n).dutyStep then (a.pulse n).currentVolume else 0#4 := by
  cases n <;> exact if_pos h

theorem waveOutput_audible {a : Apu} (h : a.audible .ch3 = true) :
    waveOutput a = waveLevel (volumeShiftCodeOf (a.reg .nr32)) (waveSample a.waveRam a.ch3.position) := if_pos h

theorem noiseOutput_audible {a : Apu} (h : a.audible .ch4 = true) :
    noiseOutput a = if a.ch4.lfsr.getLsbD 0 then 0#4 else a.ch4.currentVolume := if_pos h

/-- A channel that is not audible puts out 0 (R66). -/
theorem channelOutput_of_not_audible (c : Config) {n : ChanId} {a : Apu} (h : a.audible n = false) :
    channelOutput c n a = 0 := by
  have hn : ¬a.audible n = true := by rw [h]; exact Bool.false_ne_true
  cases n <;> exact if_neg hn

/-- The duty table is the four patterns of R125. -/
theorem params_dutyTable (v : Byte) (s : BitVec 3) : Config.params.dutyTable (dutyPatternOf v) s =
    (dutyPatterns.getD (v.toNat / 64) []).getD s.toNat false := by
  have htable : ∀ (d : BitVec 2) (s : BitVec 3),
      Config.params.dutyTable d s = (dutyPatterns.getD d.toNat []).getD s.toNat false := by decide
  rw [htable, dutyPatternOf_toNat]

theorem waveLevel_toNat (code : BitVec 2) (nibble : BitVec 4) : (waveLevel code nibble).toNat =
    if code.toNat = 0 then 0 else nibble.toNat / 2 ^ (code.toNat - 1) := by revert code nibble; decide

/-- The sample at a position: the high nibble of its byte first (R120). -/
theorem waveSample_toNat (m : Memory) (position : BitVec 5) : (waveSample m position).toNat =
    if position.toNat % 2 = 0 then (memRead m (0xFF30 + position.toNat / 2)).toNat / 16
    else (memRead m (0xFF30 + position.toNat / 2)).toNat % 16 := by
  have hindex : ∀ p : BitVec 5, (p.extractLsb' 1 4).toNat = p.toNat / 2 := by decide
  have hodd : ∀ p : BitVec 5, p.getLsbD 0 = true ↔ ¬p.toNat % 2 = 0 := by decide
  have hnibbles : ∀ b : Byte, (b.extractLsb' 4 4).toNat = b.toNat / 16 ∧ (b.extractLsb' 0 4).toNat = b.toNat % 16 := by
    decide
  unfold waveSample waveByte
  dsimp only
  rw [hindex, ← (hnibbles _).1, ← (hnibbles _).2]
  by_cases h : position.toNat % 2 = 0
  · rw [if_pos h, if_neg (mt (hodd position).mp (not_not.mpr h))]
    rfl
  · rw [if_neg h, if_pos ((hodd position).mpr h)]
    rfl

theorem lfsr_bit0 (l : BitVec 15) : l.getLsbD 0 = true ↔ ¬l.toNat % 2 = 0 := by
  rw [BitVec.getLsbD, Nat.testBit_zero, decide_eq_true_iff]
  omega

/-- Settles O45. -/
theorem channelOutputs : Obligations.ChannelOutputs := by
  unfold Obligations.ChannelOutputs
  intro a
  refine ⟨fun n => channelOutput_of_not_audible _, fun n h => ?pulse, fun h => ?wave, fun h => ?noise⟩
  case pulse =>
    have hout : channelOutput Config.params n.chan a = pulseOutput Config.params n a := by cases n <;> rfl
    rw [hout, pulseOutput_audible _ h, params_dutyTable]
    rfl
  case wave =>
    have hout : channelOutput Config.params .ch3 a = waveOutput a := rfl
    rw [hout, waveOutput_audible h, waveLevel_toNat, volumeShiftCodeOf_toNat, waveSample_toNat]
    rfl
  case noise =>
    have hout : channelOutput Config.params .ch4 a = noiseOutput a := rfl
    rw [hout, noiseOutput_audible h]
    by_cases hbit : a.ch4.lfsr.toNat % 2 = 0
    · rw [if_pos hbit, if_neg (mt (lfsr_bit0 _).mp (not_not.mpr hbit))]
    · rw [if_neg hbit, if_pos ((lfsr_bit0 _).mpr hbit)]
      rfl

/-! ### The mixer -/

/-- The parameters of this model keep what R7 settles. -/
theorem params_valid : Config.params.Valid where
  duty := by decide
  divisor := by decide
  maskHides := by intro x; cases x <;> decide
  maskKeepsDefaults := by decide
  bootPowersFirst := by decide
  bootDefaults := by decide
  scaleRange := fun sum vol hs hv => by
    have hprod := Nat.mul_le_mul hs hv
    change sum * vol * 255 / 420 ≤ 255
    omega
  scaleZero := fun vol => by change 0 * vol * 255 / 420 = 0; simp
  model := rfl
  scaleMono := fun _ _ _ _ hs hv => Nat.div_le_div_right (Nat.mul_le_mul_right 255 (Nat.mul_le_mul hs hv))

theorem mixSum_params (t : Terminal) (a : Apu) : mixSum Config.params t a = terminalSum t a := by cases t <;> rfl

/-- Under valid parameters the 8-bit sample loses nothing of the scaled sum. -/
theorem mix_toNat {c : Config} (h : c.Valid) (t : Terminal) (a : Apu) :
    (mix c t a).toNat = c.mixScale (mixSum c t a) (masterVolumeOf t a.regs.nr50).toNat := by
  have hvol : (masterVolumeOf t a.regs.nr50).toNat ≤ 7 := by have := (masterVolumeOf t a.regs.nr50).isLt; omega
  have hle := h.scaleRange _ _ (mixSum_le c t a) hvol
  exact (BitVec.toNat_ofNat ..).trans (Nat.mod_eq_of_lt (Nat.lt_of_le_of_lt hle (by decide)))

theorem mix_params_toNat (t : Terminal) (a : Apu) : (mix Config.params t a).toNat =
    terminalSum t a * (masterVolumeOf t a.regs.nr50).toNat * 255 / 420 := by
  rw [mix_toNat params_valid, mixSum_params]
  rfl

/-- Settles O54. -/
theorem mixerBounds : Obligations.MixerBounds := by
  unfold Obligations.MixerBounds
  exact ⟨params_valid, fun c t a h => ⟨mixSum_le c t a, mix_toNat h t a⟩,
    fun t a => ⟨mixSum_params t a, mixSum_params t a ▸ mixSum_le _ t a, mix_params_toNat t a⟩⟩

/-! ### The sampler -/

/-- The last part of a `STEP` is the sampler's, on a block whose latched pair and accumulator are still the old ones. -/
theorem clockCycle_eq_sampleTick (c : Config) (a : Apu) : ∃ b : Apu, clockCycle c a = sampleTick c b ∧
    b.sampleTimer = a.sampleTimer ∧ b.left = a.left ∧ b.right = a.right := ⟨_, rfl, by simp, by simp, by simp⟩

/-- Settles O44: the latched pair is the mix of a block that the latch leaves as it is but for the pair. -/
theorem samplerInStep : Obligations.SamplerInStep := by
  unfold Obligations.SamplerInStep
  intro s
  refine ⟨_, exec_step s, ?_⟩
  have htimer := clockCycle_sampleTimer Config.params s.apu
  obtain ⟨b, hb, hbt, hbl, hbr⟩ := clockCycle_eq_sampleTick Config.params s.apu
  have hlt := s.apu.sampleTimer.isLt
  dsimp only
  rw [hb] at htimer ⊢
  rw [htimer]
  refine ⟨fun hdue => ?_, fun hnot => ?_⟩
  · have hl : latchDue b.sampleTimer = true := by rw [hbt]; exact (latchDue_iff _).mpr hdue
    rw [sampleTick_due _ _ hl]
    refine ⟨by omega, ?_, ?_⟩
    · exact (mix_params_toNat _ _).trans (by rw [masterVolumeOf_left_toNat]; rfl)
    · exact (mix_params_toNat _ _).trans (by rw [masterVolumeOf_right_toNat]; rfl)
  · have hl : latchDue b.sampleTimer = false := by
      rw [hbt, ← Bool.not_eq_true, latchDue_iff]
      omega
    rw [sampleTick_notdue _ _ hl]
    exact ⟨by omega, hbl, hbr⟩

end Sys2Proof.Machine
end

/-! # Many STEPs (44_frame_sequencer.md R261, R264; 46_mixer.md R318; 40_pulse_channels.md R155, R162)

A counter that reloads with R and a position that moves on at each reload have a closed form, `reload_closed_form`; the frame
sequencer, CH2 and CH3 are its instances. -/
section
namespace Sys2Proof.Machine
open Claims

theorem cycles_succ (n : Nat) (a : Apu) : cycles (n + 1) a = clockCycle Config.params (cycles n a) :=
  Function.iterate_succ_apply' ..

/-- What a `STEP` keeps, any number of `STEP`s keep. -/
theorem cycles_induction {P : Apu → Prop} (hstep : ∀ a, P a → P (clockCycle Config.params a)) {a : Apu} (h : P a)
    (n : Nat) : P (cycles n a) := by
  induction n with
  | zero => exact h
  | succ n ih => rw [cycles_succ]; exact hstep _ ih

/-- A down-counter that reloads with `R`, and a position modulo `M` that moves on at each reload. -/
theorem reload_closed_form {timer pos : Nat → Nat} {R M : Nat} (h1 : 1 ≤ timer 0) (hR : timer 0 ≤ R) (hM : pos 0 < M)
    (hstep : ∀ n, if timer n ≤ 1 then timer (n + 1) = R ∧ pos (n + 1) = (pos n + 1) % M
      else timer (n + 1) = timer n - 1 ∧ pos (n + 1) = pos n) (n : Nat) :
    timer n = R - (R - timer 0 + n) % R ∧ pos n = (pos 0 + (R - timer 0 + n) / R) % M := by
  have hpos : 0 < R := by omega
  induction n with
  | zero =>
    have hlt : R - timer 0 < R := by omega
    rw [Nat.add_zero, Nat.mod_eq_of_lt hlt, Nat.div_eq_of_lt hlt, Nat.add_zero, Nat.mod_eq_of_lt hM]
    exact ⟨by omega, rfl⟩
  | succ n ih =>
    obtain ⟨ht, hp⟩ := ih
    have hs := hstep n
    rw [← Nat.add_assoc]
    generalize R - timer 0 + n = x at ht hp ⊢
    have hmod := Nat.mod_lt x hpos
    have hdiv := Nat.mod_add_div x R
    by_cases hlast : timer n ≤ 1
    · rw [if_pos hlast] at hs
      obtain ⟨hq, hr⟩ := (Nat.div_mod_unique (a := x + 1) (d := x / R + 1) (c := 0) hpos).mpr
        ⟨by rw [Nat.mul_add]; omega, hpos⟩
      rw [hs.1, hs.2, hq, hr, hp, Nat.mod_add_mod, Nat.add_assoc]
      exact ⟨rfl, rfl⟩
    · rw [if_neg hlast] at hs
      obtain ⟨hq, hr⟩ := (Nat.div_mod_unique (a := x + 1) (d := x / R) (c := x % R + 1) hpos).mpr
        ⟨by omega, by omega⟩
      rw [hs.1, hs.2, hq, hr, hp, ht]
      exact ⟨by omega, rfl⟩

/-! ### The frame sequencer, CH2 and CH3 -/

/-- Settles O46: the counter never stands at 0, so each `STEP` is one down or a reload with 8192. -/
theorem frameSequencerPeriod : Obligations.FrameSequencerPeriod := by
  unfold Obligations.FrameSequencerPeriod
  intro n a h1 h8192
  refine reload_closed_form (timer := fun n => (cycles n a).fs.counter.toNat)
    (pos := fun n => (cycles n a).fs.step.toNat) (M := 8) h1 h8192 a.fs.step.isLt (fun k => ?_) n
  have hpos : 1 ≤ (cycles k a).fs.counter.toNat := by
    refine cycles_induction (P := fun b => 1 ≤ b.fs.counter.toNat) (fun b hb => ?_) h1 k
    have hfs := clockCycle_fs_toNat Config.params b hb
    split_ifs at hfs <;> omega
  have hfs := clockCycle_fs_toNat Config.params _ hpos
  rw [← cycles_succ] at hfs
  by_cases hone : (cycles k a).fs.counter.toNat = 1
  · rw [if_pos hone] at hfs
    rw [if_pos (by omega)]
    exact hfs
  · rw [if_neg hone] at hfs
    rw [if_neg (by omega)]
    exact ⟨hfs.1, by rw [hfs.2]⟩

/-- A stored byte that no `STEP` writes. -/
theorem cycles_reg {x : CtrlReg} (h13 : x ≠ .nr13) (h14 : x ≠ .nr14) (a : Apu) (n : Nat) :
    (cycles n a).reg x = a.reg x :=
  cycles_induction (P := fun b => b.reg x = a.reg x) (fun b hb => (clockCycle_reg _ b h13 h14).trans hb) rfl n

theorem cycles_pulseFrequency_ch2 (a : Apu) (n : Nat) : (cycles n a).pulseFrequency .ch2 = a.pulseFrequency .ch2 := by
  unfold Apu.pulseFrequency
  rw [cycles_reg (by decide) (by decide), cycles_reg (by decide) (by decide)]

theorem cycles_waveFrequency (a : Apu) (n : Nat) : (cycles n a).waveFrequency = a.waveFrequency := by
  unfold Apu.waveFrequency
  rw [cycles_reg (by decide) (by decide), cycles_reg (by decide) (by decide)]

/-- The length of a step of CH2's duty pattern, in `STEP`s. -/
def ch2Reload (a : Apu) : Nat := (2048 - frequency a.regs.nr23 a.regs.nr24) * 4

/-- CH2's timer and duty step from one `STEP` to the next. -/
theorem cycles_ch2_succ (a : Apu) (n : Nat) :
    if (cycles n a).ch2.frequencyTimer.toNat ≤ 1 then
      (cycles (n + 1) a).ch2.frequencyTimer.toNat = ch2Reload a ∧
      (cycles (n + 1) a).ch2.dutyStep.toNat = ((cycles n a).ch2.dutyStep.toNat + 1) % 8
    else
      (cycles (n + 1) a).ch2.frequencyTimer.toNat = (cycles n a).ch2.frequencyTimer.toNat - 1 ∧
      (cycles (n + 1) a).ch2.dutyStep.toNat = (cycles n a).ch2.dutyStep.toNat := by
  obtain ⟨ht, hd⟩ := clockCycle_pulse_timer Config.params (cycles n a) .ch2
  rw [← cycles_succ, cycles_pulseFrequency_ch2] at ht
  rw [← cycles_succ] at hd
  change (cycles (n + 1) a).ch2.frequencyTimer = if (cycles n a).ch2.frequencyTimer.toNat ≤ 1 then _ else _ at ht
  change (cycles (n + 1) a).ch2.dutyStep = if (cycles n a).ch2.frequencyTimer.toNat ≤ 1 then _ else _ at hd
  by_cases hlast : (cycles n a).ch2.frequencyTimer.toNat ≤ 1
  · rw [if_pos hlast] at ht hd ⊢
    exact ⟨(congrArg BitVec.toNat ht).trans (pulseReload_frequency _ _),
      (congrArg BitVec.toNat hd).trans (toNat_add_one _)⟩
  · rw [if_neg hlast] at ht hd ⊢
    exact ⟨(congrArg BitVec.toNat ht).trans (countDown_toNat _), congrArg BitVec.toNat hd⟩

/-- CH2's timer and duty step after `n` `STEP`s. -/
theorem cycles_ch2_closed_form (a : Apu) (h1 : 1 ≤ a.ch2.frequencyTimer.toNat)
    (hR : a.ch2.frequencyTimer.toNat ≤ ch2Reload a) (n : Nat) :
    (cycles n a).ch2.frequencyTimer.toNat =
      ch2Reload a - (ch2Reload a - a.ch2.frequencyTimer.toNat + n) % ch2Reload a ∧
    (cycles n a).ch2.dutyStep.toNat =
      (a.ch2.dutyStep.toNat + (ch2Reload a - a.ch2.frequencyTimer.toNat + n) / ch2Reload a) % 8 :=
  reload_closed_form (timer := fun n => (cycles n a).ch2.frequencyTimer.toNat)
    (pos := fun n => (cycles n a).ch2.dutyStep.toNat) (M := 8) h1 hR a.ch2.dutyStep.isLt (cycles_ch2_succ a) n

/-- Settles O48. -/
theorem pulseTimerPeriod : Obligations.PulseTimerPeriod := by
  unfold Obligations.PulseTimerPeriod
  exact fun n a h1 hR => cycles_ch2_closed_form a h1 hR n

theorem cycles_ch3_succ (a : Apu) (n : Nat) :
    if (cycles n a).ch3.frequencyTimer.toNat ≤ 1 then
      (cycles (n + 1) a).ch3.frequencyTimer.toNat = (2048 - frequency a.regs.nr33 a.regs.nr34) * 2 ∧
      (cycles (n + 1) a).ch3.position.toNat = ((cycles n a).ch3.position.toNat + 1) % 32
    else
      (cycles (n + 1) a).ch3.frequencyTimer.toNat = (cycles n a).ch3.frequencyTimer.toNat - 1 ∧
      (cycles (n + 1) a).ch3.position.toNat = (cycles n a).ch3.position.toNat := by
  obtain ⟨ht, hp⟩ := clockCycle_wave_timer Config.params (cycles n a)
  rw [← cycles_succ, cycles_waveFrequency] at ht
  rw [← cycles_succ] at hp
  rw [ht, hp]
  split_ifs
  · exact ⟨waveReload_frequency _ _, toNat_add_one _⟩
  · exact ⟨countDown_toNat _, rfl⟩

/-- Settles O50. -/
theorem wavePositionPeriod : Obligations.WavePositionPeriod := by
  unfold Obligations.WavePositionPeriod
  intro n a R h1 hR
  exact reload_closed_form (timer := fun n => (cycles n a).ch3.frequencyTimer.toNat)
    (pos := fun n => (cycles n a).ch3.position.toNat) (M := 32) h1 hR a.ch3.position.isLt (cycles_ch3_succ a) n

/-! ### The sample accumulator -/

theorem cycles_sampleTimer (n : Nat) (a : Apu) :
    (cycles n a).sampleTimer.toNat = (a.sampleTimer.toNat + n * 44100) % 4194304 := by
  induction n with
  | zero => exact (Nat.mod_eq_of_lt (by have := a.sampleTimer.isLt; omega)).symm
  | succ n ih =>
    rw [cycles_succ, clockCycle_sampleTimer, ih, Nat.mod_add_mod]
    congr 1
    omega

/-- Settles O47: the closed form; 4194304 `STEP`s add a multiple of 4194304. -/
theorem sampleClockIsExact : Obligations.SampleClockIsExact := by
  unfold Obligations.SampleClockIsExact
  refine ⟨cycles_sampleTimer, fun a => BitVec.eq_of_toNat_eq ?_⟩
  rw [cycles_sampleTimer, Nat.add_mul_mod_self_left]
  exact Nat.mod_eq_of_lt (by have := a.sampleTimer.isLt; omega)

/-! ### Counting over a period -/

/-- A predicate of blocks of `R` numbers holds on `R` numbers for each block it holds on. -/
theorem count_blocks (q : Nat → Prop) [DecidablePred q] {R : Nat} (hR : 0 < R) (m : Nat) :
    Nat.count (fun j => q (j / R)) (m * R) = Nat.count q m * R := by
  induction m with
  | zero => simp
  | succ m ih =>
    have hblock : Nat.count (fun k => q ((m * R + k) / R)) R = if q m then R else 0 := by
      have hm : ∀ k ∈ Finset.range R, (q ((m * R + k) / R) ↔ q m) := fun k hk => by
        rw [Nat.mul_comm, Nat.mul_add_div hR, Nat.div_eq_of_lt (Finset.mem_range.mp hk), Nat.add_zero]
      rw [Nat.count_eq_card_filter_range, Finset.filter_congr hm]
      by_cases hq : q m <;> simp [hq]
    rw [Nat.add_mul, Nat.one_mul, Nat.count_add, ih, hblock, Nat.count_succ, Nat.add_mul]
    by_cases hq : q m <;> simp [hq]

/-- Over one period a count does not depend on where it begins. -/
theorem count_shift_of_periodic (p : Nat → Prop) [DecidablePred p] {L : Nat} (hp : ∀ j, p (L + j) ↔ p j) (x : Nat) :
    Nat.count (fun k => p (x + k)) L = Nat.count p L := by
  have h1 := Nat.count_add p x L
  have h2 := Nat.count_add p L x
  have hsame : Nat.count (fun k => p (L + k)) x = Nat.count p x := by simp only [hp]
  rw [hsame, Nat.add_comm L x] at h2
  omega

/-! ### The duty ratio of CH2 -/

/-- CH2 plays at a fixed volume: its length and envelope are off. -/
structure PlaysSteadily (v : BitVec 4) (a : Apu) : Prop where
  audible : a.audible .ch2 = true
  noLength : a.lengthEnable .ch2 = false
  noEnvelope : a.regs.nr22.toNat % 8 = 0
  volume : a.ch2.currentVolume = v

/-- A `STEP` keeps a steady CH2 steady: nothing in it clears the flag or moves the volume. -/
theorem clockCycle_playsSteadily {c : Config} {v : BitVec 4} {a : Apu} (h : PlaysSteadily v a) :
    PlaysSteadily v (clockCycle c a) := by
  have hnr22 : (clockCycle c a).regs.nr22 = a.regs.nr22 := clockCycle_reg c a (x := .nr22) (by decide) (by decide)
  have hnr24 : (clockCycle c a).regs.nr24 = a.regs.nr24 := clockCycle_reg c a (x := .nr24) (by decide) (by decide)
  obtain ⟨hen, hdac⟩ := Bool.and_eq_true_iff.mp h.audible
  have hen' : (clockCycle c a).enabled .ch2 = true :=
    (clockCycle_enabled_iff c (by decide) a).mpr ⟨hen, fun hl => by simp [h.noLength] at hl⟩
  have hdac' : (clockCycle c a).dacEnabled .ch2 = true := (congrArg envDacOf hnr22).trans hdac
  have hvol : Claims.volume .ch2 (clockCycle c a) = Claims.volume .ch2 a :=
    (clockCycle_envelope_of_pace_zero c (n := .ch2) h.noEnvelope).2
  exact
    { audible := Bool.and_eq_true_iff.mpr ⟨hen', hdac'⟩
      noLength := (congrArg (fun b : Byte => b.getLsbD 6) hnr24).trans h.noLength
      noEnvelope := by rw [hnr22]; exact h.noEnvelope
      volume := (BitVec.eq_of_toNat_eq hvol).trans h.volume }

/-- Is the duty pattern of NR21 = `r` high at step `i` modulo 8. -/
def dutyHigh (r : Byte) (i : Nat) : Bool := (dutyPatterns.getD (r.toNat / 64) []).getD (i % 8) false

/-- The output of a steady CH2 is its volume where the pattern is high, else 0. -/
theorem channelOutput_of_playsSteadily {v : BitVec 4} {a : Apu} (h : PlaysSteadily v a) :
    channelOutput Config.params .ch2 a = if dutyHigh (a.reg .nr21) a.ch2.dutyStep.toNat then v else 0#4 := by
  have hout : channelOutput Config.params .ch2 a = pulseOutput Config.params .ch2 a := rfl
  rw [hout, pulseOutput_audible _ (n := .ch2) h.audible, params_dutyTable, dutyHigh,
    Nat.mod_eq_of_lt a.ch2.dutyStep.isLt, ← h.volume]
  rfl

/-- Each pattern is high on 1, 2, 4 or 6 of its 8 steps, from wherever one begins. -/
theorem count_dutyHigh (r : Byte) (d : BitVec 3) :
    Nat.count (fun i => dutyHigh r (d.toNat + i) = true) 8 = highSteps.getD (r.toNat / 64) 0 := by
  have hall : ∀ (p : Fin 4) (d : BitVec 3),
      Nat.count (fun i => (dutyPatterns.getD p.val []).getD ((d.toNat + i) % 8) false = true) 8 =
        highSteps.getD p.val 0 := by decide
  exact hall ⟨r.toNat / 64, by have := r.isLt; omega⟩ d

/-- Over 8 blocks of `R`, wherever they begin, the pattern is high on as many blocks as it has high steps. -/
theorem count_dutyHigh_blocks (r : Byte) (d : BitVec 3) {R : Nat} (hR : 0 < R) (x : Nat) :
    Nat.count (fun k => dutyHigh r (d.toNat + (x + k) / R) = true) (8 * R) = highSteps.getD (r.toNat / 64) 0 * R := by
  have hperiodic : ∀ j, dutyHigh r (d.toNat + (8 * R + j) / R) = true ↔ dutyHigh r (d.toNat + j / R) = true :=
      fun j => by
    rw [Nat.mul_comm, Nat.mul_add_div hR, dutyHigh, dutyHigh, Nat.add_left_comm, Nat.add_mod_left]
  rw [count_shift_of_periodic (fun j => dutyHigh r (d.toNat + j / R) = true) hperiodic x,
    count_blocks (fun i => dutyHigh r (d.toNat + i) = true) hR, count_dutyHigh]

/-- The output of a steady CH2 after `STEP` k + 1, by the closed form of the duty step. -/
theorem cycles_output_of_playsSteadily {v : BitVec 4} {a : Apu} (h : PlaysSteadily v a)
    (h1 : 1 ≤ a.ch2.frequencyTimer.toNat) (hR : a.ch2.frequencyTimer.toNat ≤ ch2Reload a) (k : Nat) :
    channelOutput Config.params .ch2 (cycles (k + 1) a) =
      if dutyHigh (a.reg .nr21)
        (a.ch2.dutyStep.toNat + (ch2Reload a - a.ch2.frequencyTimer.toNat + 1 + k) / ch2Reload a) then v else 0#4 := by
  have hplays : PlaysSteadily v (cycles (k + 1) a) :=
    cycles_induction (P := PlaysSteadily v) (fun _ => clockCycle_playsSteadily) h (k + 1)
  have hstep := (cycles_ch2_closed_form a h1 hR (k + 1)).2
  rw [channelOutput_of_playsSteadily hplays, cycles_reg (by decide) (by decide), hstep, dutyHigh, dutyHigh,
    Nat.mod_mod, Nat.add_assoc (_ - _), Nat.add_comm 1 k]

/-- Settles O49: the output after `STEP` k + 1 depends on k in blocks of one reload length, and a period is 8 blocks. -/
theorem dutyRatioOverOnePeriod : Obligations.DutyRatioOverOnePeriod := by
  unfold Obligations.DutyRatioOverOnePeriod
  intro a R out haud hlen henv hvol h1 hR
  have hout : ∀ k, out k = _ := cycles_output_of_playsSteadily ⟨haud, hlen, henv, rfl⟩ h1 hR
  refine ⟨?_, fun k => ?_⟩
  · have hhigh : ∀ k ∈ Finset.range (8 * R), (out k = a.ch2.currentVolume ↔ dutyHigh (a.reg .nr21)
        (a.ch2.dutyStep.toNat + (ch2Reload a - a.ch2.frequencyTimer.toNat + 1 + k) / ch2Reload a) = true) := fun k _ => by
      rw [hout k]
      split_ifs with hh
      · exact iff_of_true rfl hh
      · exact iff_of_false hvol.symm hh
    rw [Finset.filter_congr hhigh, ← Nat.count_eq_card_filter_range]
    exact count_dutyHigh_blocks _ _ (Nat.lt_of_lt_of_le h1 hR) _
  · rw [hout k]
    split_ifs
    · exact .inl rfl
    · exact .inr rfl

/-! ### The length counter -/

/-- Settles O51, by induction on the number of clocks. -/
theorem lengthExpiresOnNthClock : Obligations.LengthExpiresOnNthClock := by
  unfold Obligations.LengthExpiresOnNthClock
  intro n a N hlen hen hcount hpos
  have hregs : ∀ b : Apu, (clock256Hz n b).regs = b.regs := fun b => by cases n <;> rfl
  have hkey : ∀ k, ((clock256Hz n)^[k] a).lengthEnable n = true ∧
      lengthCounter n ((clock256Hz n)^[k] a) = N - k ∧ ((clock256Hz n)^[k] a).enabled n = decide (k < N) := by
    intro k
    induction k with
    | zero => exact ⟨hlen, hcount, hen.trans (decide_eq_true hpos).symm⟩
    | succ k ih =>
      obtain ⟨hl, hc, he⟩ := ih
      rw [Function.iterate_succ_apply']
      generalize (clock256Hz n)^[k] a = b at hl hc he ⊢
      obtain ⟨hc', he'⟩ := clock256Hz_toNat n b
      refine ⟨?_, ?_, ?_⟩
      · exact (Apu.lengthEnable_congr (fun x => by simp only [Apu.reg, hregs]) n).trans hl
      · rw [hc', if_pos hl, hc, Nat.sub_sub]
      · rw [he', hl, hc, he, Bool.true_and, ← decide_not, ← Bool.decide_and]
        exact decide_eq_decide.mpr (by omega)
  refine ⟨fun k hk => ?_, fun k hk => ?_⟩
  · obtain ⟨-, hc, he⟩ := hkey k
    exact ⟨he.trans (decide_eq_true hk), hc⟩
  · obtain ⟨-, hc, he⟩ := hkey k
    exact ⟨he.trans (decide_eq_false (by omega)), by omega⟩

/-! ### The LFSR -/

theorem lfsrShift_zero (short : Bool) : lfsrShift short 0#15 = 0#15 := by cases short <;> decide

/-- In 15-bit mode bits 1 to 14 are found one place lower, and bit 0 from bit 14 of the result and bit 1. -/
theorem lfsrShift_injective : Function.Injective (lfsrShift false) := by
  intro l l' h
  have hbit : ∀ i, i < 15 → (lfsrShift false l).getLsbD i = (lfsrShift false l').getLsbD i := fun i _ => by rw [h]
  have hupper : ∀ i, i < 14 → l.getLsbD (i + 1) = l'.getLsbD (i + 1) := fun i hi => by
    have hb := hbit i (by omega)
    rw [lfsrShift_getLsbD _ _ i (by omega), lfsrShift_getLsbD _ _ i (by omega)] at hb
    have hi14 : i ≠ 14 := by omega
    simpa [hi14] using hb
  have hxor : (l.getLsbD 0 ^^ l.getLsbD 1) = (l'.getLsbD 0 ^^ l'.getLsbD 1) := by
    have hb := hbit 14 (by decide)
    rw [lfsrShift_getLsbD _ _ 14 (by decide), lfsrShift_getLsbD _ _ 14 (by decide)] at hb
    simpa using hb
  have hbit1 : l.getLsbD 1 = l'.getLsbD 1 := hupper 0 (by decide)
  have hbit0 : l.getLsbD 0 = l'.getLsbD 0 := by rwa [hbit1, Bool.xor_left_inj] at hxor
  refine BitVec.eq_of_getLsbD_eq fun i hi => ?_
  cases i with
  | zero => exact hbit0
  | succ i => exact hupper i (by omega)

/-- Settles O52. -/
theorem lfsrShiftLosesNothing : Obligations.LfsrShiftLosesNothing := by
  unfold Obligations.LfsrShiftLosesNothing
  refine ⟨lfsrShift_zero, fun _ _ h => lfsrShift_injective h, fun l k hl h0 => hl ?_⟩
  have hfix : (lfsrShift false)^[k] 0#15 = 0#15 := Function.iterate_fixed (lfsrShift_zero false) k
  exact lfsrShift_injective.iterate k (h0.trans hfix.symm)

end Sys2Proof.Machine
end

/-! # A write to a control register (45_register_file.md R278 to R281)

With the power on, a write is one of four: the store alone, a length load, the DAC gate of a channel, or a trigger. What
holds of every write is proved over these four. -/
section
namespace Sys2Proof.Machine
open Claims

/-! ### The four kinds of write -/

/-- NR11, NR21, NR31, NR41: the register that loads the length counter. -/
def ChanId.lengthReg : ChanId → CtrlReg
  | .ch1 => .nr11
  | .ch2 => .nr21
  | .ch3 => .nr31
  | .ch4 => .nr41

/-- NR12, NR22, NR30, NR42: the register the DAC view reads. -/
def ChanId.dacReg : ChanId → CtrlReg
  | .ch1 => .nr12
  | .ch2 => .nr22
  | .ch3 => .nr30
  | .ch4 => .nr42

/-- The length load of a channel (R119). -/
def loadLength (c : Config) (n : ChanId) (v : Byte) (a : Apu) : Apu :=
  match n with
  | .ch1 => pulseLengthWrite .ch1 v a
  | .ch2 => pulseLengthWrite .ch2 v a
  | .ch3 => a.setCh3 { a.ch3 with lengthCounter := waveLengthLoad c v }
  | .ch4 => a.setCh4 { a.ch4 with lengthCounter := lengthLoad v }

/-- The trigger of a channel (40_pulse_channels.md R165; 42_wave_channel.md R225; 43_noise_channel.md R247). -/
def trigger (c : Config) (n : ChanId) (a : Apu) : Apu :=
  match n with
  | .ch1 => triggerPulse .ch1 a
  | .ch2 => triggerPulse .ch2 a
  | .ch3 => triggerWave c a
  | .ch4 => triggerNoise c a

/-- What an accepted write of `v` to `x` makes of the block `a`. -/
inductive CtrlWrite (c : Config) (a : Apu) : CtrlReg → Byte → Apu → Prop where
  | store (x : CtrlReg) (v : Byte) (hx : ∀ n : ChanId, x ≠ n.dacReg) : CtrlWrite c a x v (a.store x v)
  | length (n : ChanId) (v : Byte) : CtrlWrite c a n.lengthReg v (loadLength c n v (a.store n.lengthReg v))
  | dac (n : ChanId) (v : Byte) : CtrlWrite c a n.dacReg v (dacGate n (a.store n.dacReg v))
  | trigger (n : ChanId) (v : Byte) (hv : v.getLsbD 7 = true) :
    CtrlWrite c a n.nrx4 v (trigger c n (a.store n.nrx4 v))

/-- A write to NRx4 is the store and, with bit 7 set, the trigger. -/
theorem ctrlWrite_nrx4 {c : Config} (n : ChanId) (v : Byte) {a : Apu} (hp : a.masterPower = true) :
    CtrlWrite c a n.nrx4 v
      (acceptWrite n.nrx4 v (fun b => if triggerOf v then Machine.trigger c n b else b) a) := by
  rw [acceptWrite_on hp]
  by_cases hv : triggerOf v = true
  · rw [if_pos hv]
    exact .trigger n v hv
  · rw [if_neg hv]
    exact .store _ v fun m => by cases n <;> cases m <;> decide

theorem ctrlWrite_of_on (c : Config) (x : CtrlReg) (v : Byte) {a : Apu} (hp : a.masterPower = true) :
    CtrlWrite c a x v (wrCtrl c x v a) := by
  have hstore : ∀ x : CtrlReg, (∀ n : ChanId, x ≠ n.dacReg) → CtrlWrite c a x v (acceptWrite x v id a) :=
    fun x hx => by rw [acceptWrite_on hp]; exact .store x v hx
  have hlength : ∀ n : ChanId, CtrlWrite c a n.lengthReg v (acceptWrite n.lengthReg v (loadLength c n v) a) :=
    fun n => by rw [acceptWrite_on hp]; exact .length n v
  have hdac : ∀ n : ChanId, CtrlWrite c a n.dacReg v (acceptWrite n.dacReg v (dacGate n) a) :=
    fun n => by rw [acceptWrite_on hp]; exact .dac n v
  cases x with
  | nr10 => exact hstore .nr10 (fun n => by cases n <;> decide)
  | nr11 => exact hlength .ch1
  | nr12 => exact hdac .ch1
  | nr13 => exact hstore .nr13 (fun n => by cases n <;> decide)
  | nr14 => exact ctrlWrite_nrx4 .ch1 v hp
  | nr21 => exact hlength .ch2
  | nr22 => exact hdac .ch2
  | nr23 => exact hstore .nr23 (fun n => by cases n <;> decide)
  | nr24 => exact ctrlWrite_nrx4 .ch2 v hp
  | nr30 => exact hdac .ch3
  | nr31 => exact hlength .ch3
  | nr32 => exact hstore .nr32 (fun n => by cases n <;> decide)
  | nr33 => exact hstore .nr33 (fun n => by cases n <;> decide)
  | nr34 => exact ctrlWrite_nrx4 .ch3 v hp
  | nr41 => exact hlength .ch4
  | nr42 => exact hdac .ch4
  | nr43 => exact hstore .nr43 (fun n => by cases n <;> decide)
  | nr44 => exact ctrlWrite_nrx4 .ch4 v hp
  | nr50 => exact hstore .nr50 (fun n => by cases n <;> decide)
  | nr51 => exact hstore .nr51 (fun n => by cases n <;> decide)

/-! ### What a write leaves unchanged -/

/-- From `a` to `b` only working registers of channel `n` change. -/
structure OnlyChannel (n : ChanId) (a b : Apu) : Prop where
  regs : b.regs = a.regs
  masterPower : b.masterPower = a.masterPower
  waveRam : b.waveRam = a.waveRam
  fs : b.fs = a.fs
  sampleTimer : b.sampleTimer = a.sampleTimer
  left : b.left = a.left
  right : b.right = a.right
  ch1 : n ≠ .ch1 → b.ch1 = a.ch1 ∧ b.sweep = a.sweep
  ch2 : n ≠ .ch2 → b.ch2 = a.ch2
  ch3 : n ≠ .ch3 → b.ch3 = a.ch3
  ch4 : n ≠ .ch4 → b.ch4 = a.ch4

theorem OnlyChannel.refl (n : ChanId) (a : Apu) : OnlyChannel n a a :=
  ⟨rfl, rfl, rfl, rfl, rfl, rfl, rfl, fun _ => ⟨rfl, rfl⟩, fun _ => rfl, fun _ => rfl, fun _ => rfl⟩

theorem OnlyChannel.setCh1 {a b : Apu} (h : OnlyChannel .ch1 a b) (p : PulseCh) : OnlyChannel .ch1 a (b.setCh1 p) :=
  { h with ch1 := fun hn => absurd rfl hn }

theorem OnlyChannel.setSweep {a b : Apu} (h : OnlyChannel .ch1 a b) (x : SweepUnit) :
    OnlyChannel .ch1 a (b.setSweep x) :=
  { h with ch1 := fun hn => absurd rfl hn }

theorem onlyChannel_setCh2 (a : Apu) (p : PulseCh) : OnlyChannel .ch2 a (a.setCh2 p) :=
  { OnlyChannel.refl .ch2 a with ch2 := fun hn => absurd rfl hn }

theorem onlyChannel_setCh3 (a : Apu) (p : WaveCh) : OnlyChannel .ch3 a (a.setCh3 p) :=
  { OnlyChannel.refl .ch3 a with ch3 := fun hn => absurd rfl hn }

theorem onlyChannel_setCh4 (a : Apu) (p : NoiseCh) : OnlyChannel .ch4 a (a.setCh4 p) :=
  { OnlyChannel.refl .ch4 a with ch4 := fun hn => absurd rfl hn }

theorem onlyChannel_disable (n : ChanId) (a : Apu) : OnlyChannel n a (a.disable n) := by
  cases n
  · exact (OnlyChannel.refl .ch1 a).setCh1 _
  · exact onlyChannel_setCh2 a _
  · exact onlyChannel_setCh3 a _
  · exact onlyChannel_setCh4 a _

theorem onlyChannel_dacGate (n : ChanId) (a : Apu) : OnlyChannel n a (dacGate n a) := by
  unfold dacGate
  split_ifs
  · exact .refl n a
  · exact onlyChannel_disable n a

theorem onlyChannel_loadLength (c : Config) (n : ChanId) (v : Byte) (a : Apu) :
    OnlyChannel n a (loadLength c n v a) := by
  cases n
  · exact (OnlyChannel.refl .ch1 a).setCh1 _
  · exact onlyChannel_setCh2 a _
  · exact onlyChannel_setCh3 a _
  · exact onlyChannel_setCh4 a _

/-- The CH1 trigger's sweep part writes the sweep unit, and `enabled` where the immediate check overflows. -/
theorem onlyChannel_trigger (c : Config) (n : ChanId) (a : Apu) : OnlyChannel n a (trigger c n a) := by
  cases n
  · have hb : OnlyChannel .ch1 a (pulseRestart .ch1 a) := (OnlyChannel.refl .ch1 a).setCh1 _
    obtain ⟨-, -, he⟩ | ⟨-, he⟩ := sweepTrigger_cases (pulseRestart .ch1 a)
    · change OnlyChannel .ch1 a (sweepTrigger (pulseRestart .ch1 a))
      rw [he]
      exact (hb.setSweep _).setCh1 _
    · change OnlyChannel .ch1 a (sweepTrigger (pulseRestart .ch1 a))
      rw [he]
      exact hb.setSweep _
  · exact onlyChannel_setCh2 a _
  · exact onlyChannel_setCh3 a _
  · exact onlyChannel_setCh4 a _

theorem OnlyChannel.enabled {n m : ChanId} {a b : Apu} (h : OnlyChannel n a b) (hm : m ≠ n) :
    b.enabled m = a.enabled m := by
  cases m
  · exact congrArg PulseCh.enabled (h.ch1 hm.symm).1
  · exact congrArg PulseCh.enabled (h.ch2 hm.symm)
  · exact congrArg WaveCh.enabled (h.ch3 hm.symm)
  · exact congrArg NoiseCh.enabled (h.ch4 hm.symm)

/-- A write stores the byte, and then changes at most the channel the register belongs to. -/
theorem CtrlWrite.onlyOwner {c : Config} {a b : Apu} {x : CtrlReg} {v : Byte} (h : CtrlWrite c a x v b) :
    b = a.store x v ∨ ∃ n, owner x = some n ∧ OnlyChannel n (a.store x v) b := by
  cases h with
  | store => exact .inl rfl
  | length n => exact .inr ⟨n, by cases n <;> rfl, onlyChannel_loadLength c n v _⟩
  | dac n => exact .inr ⟨n, by cases n <;> rfl, onlyChannel_dacGate n _⟩
  | trigger n => exact .inr ⟨n, by cases n <;> rfl, onlyChannel_trigger c n _⟩

/-- Settles O10. -/
theorem acceptedWriteStoresWholeByte : Obligations.AcceptedWriteStoresWholeByte := by
  unfold Obligations.AcceptedWriteStoresWholeByte
  intro x v s hp
  refine ⟨_, exec_ofWrite x v s, ?_⟩
  have hset := s.apu.regs.get_set x
  dsimp only
  obtain hb | ⟨n, hn, hb⟩ := (ctrlWrite_of_on Config.params x v hp).onlyOwner
  · rw [hb]
    exact ⟨fun y => hset y v, hp, rfl, rfl, rfl, rfl, rfl, rfl, rfl, fun _ => ⟨rfl, rfl⟩, fun _ => rfl, fun _ => rfl,
      fun _ => rfl⟩
  · have hne : ∀ {m : ChanId}, owner x ≠ some m → n ≠ m := fun h hnm => h (hn.trans (congrArg some hnm))
    exact ⟨fun y => by rw [hb.regs]; exact hset y v, hb.masterPower.trans hp, hb.waveRam, hb.fs, hb.sampleTimer,
      hb.left, hb.right, rfl, rfl, fun h => hb.ch1 (hne h), fun h => hb.ch2 (hne h), fun h => hb.ch3 (hne h),
      fun h => hb.ch4 (hne h)⟩

end Sys2Proof.Machine
end

/-! # The invariant (10_state.md R48, R49, R55, R59, R66, R67)

Every operation keeps it: a write by its four kinds, a `STEP` field by field, `RESET` because its boot writes are writes. -/
section
namespace Sys2Proof.Machine
open Claims

/-! ### The parts of the invariant -/

theorem dacGateOk_iff (a : Apu) : a.DacGateOk ↔ ∀ n, a.enabled n = true → a.dacEnabled n = true :=
  ⟨fun ⟨h1, h2, h3, h4⟩ n => by cases n <;> assumption, fun h => ⟨h .ch1, h .ch2, h .ch3, h .ch4⟩⟩

theorem dacEnabled_of_dacReg {a b : Apu} {n : ChanId} (h : a.reg n.dacReg = b.reg n.dacReg) :
    a.dacEnabled n = b.dacEnabled n := by
  cases n
  · exact congrArg envDacOf h
  · exact congrArg envDacOf h
  · exact congrArg waveDacOf h
  · exact congrArg envDacOf h

theorem dacEnabled_of_regs {a b : Apu} (h : a.regs = b.regs) (n : ChanId) : a.dacEnabled n = b.dacEnabled n :=
  dacEnabled_of_dacReg (congrArg (fun f : RegFile => f.get n.dacReg) h)

/-- A store to another register leaves the DAC view. -/
theorem dacEnabled_store {a : Apu} {x : CtrlReg} {v : Byte} {n : ChanId} (h : x ≠ n.dacReg) :
    (a.store x v).dacEnabled n = a.dacEnabled n :=
  dacEnabled_of_dacReg (by rw [Apu.store_reg, if_neg h.symm])

section ranges
variable {c : Config} {a : Apu} (h : a.RangesOk c)
include h

theorem rangesOk_setCh1 {p : PulseCh} (ht : p.frequencyTimer.toNat ≤ 8192) (hl : p.lengthCounter.toNat ≤ 64) :
    (a.setCh1 p).RangesOk c := by
  obtain ⟨-, t2, t3, t4, -, l2, l3, l4, rest⟩ := h
  exact ⟨ht, t2, t3, t4, hl, l2, l3, l4, rest⟩

theorem rangesOk_setCh2 {p : PulseCh} (ht : p.frequencyTimer.toNat ≤ 8192) (hl : p.lengthCounter.toNat ≤ 64) :
    (a.setCh2 p).RangesOk c := by
  obtain ⟨t1, -, t3, t4, l1, -, l3, l4, rest⟩ := h
  exact ⟨t1, ht, t3, t4, l1, hl, l3, l4, rest⟩

theorem rangesOk_setCh3 {p : WaveCh} (ht : p.frequencyTimer.toNat ≤ 4096)
    (hl : p.lengthCounter.toNat ≤ c.waveLenMax.toNat) : (a.setCh3 p).RangesOk c := by
  obtain ⟨t1, t2, -, t4, l1, l2, -, l4, rest⟩ := h
  exact ⟨t1, t2, ht, t4, l1, l2, hl, l4, rest⟩

theorem rangesOk_setCh4 {p : NoiseCh} (ht : p.frequencyTimer.toNat ≤ maxDivisor c * 2 ^ 15)
    (hl : p.lengthCounter.toNat ≤ 64) : (a.setCh4 p).RangesOk c := by
  obtain ⟨t1, t2, t3, -, l1, l2, l3, -, rest⟩ := h
  exact ⟨t1, t2, t3, ht, l1, l2, l3, hl, rest⟩

theorem rangesOk_setSweep {x : SweepUnit} (ht : x.sweepTimer.toNat ≤ 8) : (a.setSweep x).RangesOk c := by
  obtain ⟨t1, t2, t3, t4, l1, l2, l3, l4, -, fs⟩ := h
  exact ⟨t1, t2, t3, t4, l1, l2, l3, l4, ht, fs⟩

theorem rangesOk_disable (n : ChanId) : (a.disable n).RangesOk c := by
  have ⟨t1, t2, t3, t4, l1, l2, l3, l4, _⟩ := h
  cases n
  · exact rangesOk_setCh1 h t1 l1
  · exact rangesOk_setCh2 h t2 l2
  · exact rangesOk_setCh3 h t3 l3
  · exact rangesOk_setCh4 h t4 l4

theorem rangesOk_dacGate (n : ChanId) : (dacGate n a).RangesOk c := by
  unfold dacGate
  split_ifs
  · exact h
  · exact rangesOk_disable h n

theorem rangesOk_loadLength (n : ChanId) (v : Byte) : (loadLength c n v a).RangesOk c := by
  have ⟨t1, t2, t3, t4, _⟩ := h
  cases n
  · exact rangesOk_setCh1 h t1 (lengthLoad_le v)
  · exact rangesOk_setCh2 h t2 (lengthLoad_le v)
  · exact rangesOk_setCh3 h t3 (waveLengthLoad_le c v)
  · exact rangesOk_setCh4 h t4 (lengthLoad_le v)

end ranges

/-- The length counter a trigger leaves: 64 in place of 0 (R165). -/
theorem reloadIfZero_le {x : BitVec 7} (h : x.toNat ≤ 64) : (if x = 0#7 then 64#7 else x).toNat ≤ 64 := by
  split_ifs
  · exact le_refl 64
  · exact h

theorem reloadIfZero_wave_le (m : WaveLen) {x : BitVec 9} (h : x.toNat ≤ m.toNat) :
    (if x = 0#9 then BitVec.ofNat 9 m.toNat else x).toNat ≤ m.toNat := by
  split_ifs
  · cases m <;> decide
  · exact h

theorem rangesOk_trigger {c : Config} (hc : c.Valid) {a : Apu} (h : a.RangesOk c) (n : ChanId) :
    (trigger c n a).RangesOk c := by
  have ⟨_, _, _, _, l1, l2, l3, l4, _⟩ := h
  cases n
  · have hb : (pulseRestart .ch1 a).RangesOk c := rangesOk_setCh1 h (pulseReload_le _) (reloadIfZero_le l1)
    have hs := rangesOk_setSweep hb (x := ⟨(pulseRestart .ch1 a).pulseFrequency .ch1,
      sweepReload (pulseRestart .ch1 a).sweepPeriod, sweepArmed (pulseRestart .ch1 a).regs.nr10⟩) (sweepReload_le _)
    change (sweepTrigger (pulseRestart .ch1 a)).RangesOk c
    obtain ⟨-, -, he⟩ | ⟨-, he⟩ := sweepTrigger_cases (pulseRestart .ch1 a)
    · rw [he]; exact rangesOk_disable hs .ch1
    · rw [he]; exact hs
  · exact rangesOk_setCh2 h (pulseReload_le _) (reloadIfZero_le l2)
  · exact rangesOk_setCh3 h (waveReload_le _) (reloadIfZero_wave_le _ l3)
  · exact rangesOk_setCh4 h (noiseReload_le_max hc _) (reloadIfZero_le l4)

/-! ### A write keeps the invariant -/

theorem loadLength_enabled (c : Config) (n m : ChanId) (v : Byte) (a : Apu) :
    (loadLength c n v a).enabled m = a.enabled m := by
  cases n <;> cases m <;> rfl

/-- The DAC gate enables no channel, and leaves its own enabled only with the DAC on. -/
theorem dacGate_enabled {n m : ChanId} {a : Apu} (h : (dacGate n a).enabled m = true) :
    a.enabled m = true ∧ (m = n → a.dacEnabled n = true) := by
  unfold dacGate at h
  split_ifs at h with hdac
  · exact ⟨h, fun _ => hdac⟩
  · rw [Apu.disable_enabled, Bool.and_eq_true, bne_iff_ne] at h
    exact ⟨h.1, fun hm => absurd hm h.2⟩

/-- A trigger enables its channel only with the DAC on. -/
theorem trigger_enabled {c : Config} {n : ChanId} {a : Apu} (h : (trigger c n a).enabled n = true) :
    a.dacEnabled n = true := by
  cases n
  · change (sweepTrigger (pulseRestart .ch1 a)).enabled .ch1 = true at h
    obtain ⟨-, -, he⟩ | ⟨-, he⟩ := sweepTrigger_cases (pulseRestart .ch1 a)
    · rw [he, Apu.disable_enabled] at h
      simp at h
    · rw [he] at h
      exact h
  · exact h
  · exact h
  · exact h

/-- A channel that a write leaves enabled has its DAC on, if that was so before. -/
theorem CtrlWrite.dacGateOk {c : Config} {a b : Apu} {x : CtrlReg} {v : Byte} (h : CtrlWrite c a x v b)
    (ha : a.DacGateOk) : b.DacGateOk := by
  rw [dacGateOk_iff] at ha ⊢
  intro m hm
  cases h with
  | store _ _ hx => exact (dacEnabled_store (hx m)).trans (ha m hm)
  | length n =>
    have hreg : n.lengthReg ≠ m.dacReg := by cases n <;> cases m <;> decide
    rw [loadLength_enabled] at hm
    rw [dacEnabled_of_regs (onlyChannel_loadLength c n v _).regs, dacEnabled_store hreg]
    exact ha m hm
  | dac n =>
    obtain ⟨hen, hown⟩ := dacGate_enabled hm
    rw [dacEnabled_of_regs (onlyChannel_dacGate n _).regs]
    by_cases hmn : m = n
    · rw [hmn]; exact hown hmn
    · have hreg : n.dacReg ≠ m.dacReg := by revert hmn; cases n <;> cases m <;> decide
      exact (dacEnabled_store hreg).trans (ha m hen)
  | trigger n =>
    have honly := onlyChannel_trigger c n (a.store n.nrx4 v)
    rw [dacEnabled_of_regs honly.regs]
    by_cases hmn : m = n
    · subst hmn; exact trigger_enabled hm
    · have hreg : n.nrx4 ≠ m.dacReg := by cases n <;> cases m <;> decide
      rw [honly.enabled hmn] at hm
      exact (dacEnabled_store hreg).trans (ha m hm)

theorem CtrlWrite.rangesOk {c : Config} (hc : c.Valid) {a b : Apu} {x : CtrlReg} {v : Byte} (h : CtrlWrite c a x v b)
    (ha : a.RangesOk c) : b.RangesOk c := by
  have hstore : ∀ x, (a.store x v).RangesOk c := fun _ => ha
  cases h with
  | store => exact hstore _
  | length n => exact rangesOk_loadLength (hstore _) n v
  | dac n => exact rangesOk_dacGate (hstore _) n
  | trigger n => exact rangesOk_trigger hc (hstore _) n

theorem CtrlWrite.masterPower_waveRam {c : Config} {a b : Apu} {x : CtrlReg} {v : Byte} (h : CtrlWrite c a x v b) :
    b.masterPower = a.masterPower ∧ b.waveRam = a.waveRam := by
  obtain hb | ⟨n, -, hb⟩ := h.onlyOwner
  · rw [hb]; exact ⟨rfl, rfl⟩
  · exact ⟨hb.masterPower, hb.waveRam⟩

theorem wrCtrl_inv {c : Config} (hc : c.Valid) {a : Apu} (h : a.InvFor c) (x : CtrlReg) (v : Byte) :
    (wrCtrl c x v a).InvFor c := by
  cases hp : a.masterPower with
  | false => rw [wrCtrl_off c x v hp]; exact h
  | true =>
    have hw := ctrlWrite_of_on c x v hp
    obtain ⟨hpower, hram⟩ := hw.masterPower_waveRam
    exact
      { ranges := hw.rangesOk hc h.ranges
        dacGate := hw.dacGateOk h.dacGate
        powerGate := fun hoff => absurd (hp.symm.trans (hpower.symm.trans hoff)) (by decide)
        memory := by rw [hram]; exact h.memory }

theorem powerOff_inv {c : Config} {a : Apu} (h : a.InvFor c) : (powerOff a).InvFor c where
  ranges := by
    have ⟨_, _, _, _, _, _, _, _, _, fs⟩ := h.ranges
    exact ⟨Nat.zero_le _, Nat.zero_le _, Nat.zero_le _, Nat.zero_le _, Nat.zero_le _, Nat.zero_le _, Nat.zero_le _,
      Nat.zero_le _, Nat.zero_le _, fs⟩
  dacGate := (dacGateOk_iff _).mpr fun n hn => by cases n <;> exact absurd hn Bool.false_ne_true
  powerGate := fun _ => ⟨rfl, rfl, rfl, rfl, rfl, rfl, rfl, rfl, rfl, rfl, rfl, rfl, rfl, rfl, rfl, rfl, rfl, rfl⟩
  memory := h.memory

theorem wrNr52_inv {c : Config} {a : Apu} (h : a.InvFor c) (v : Byte) : (wrNr52 v a).InvFor c := by
  cases hv : v.getLsbD 7 with
  | true =>
    rw [wrNr52_powerOn hv]
    exact ⟨h.ranges, h.dacGate, fun hoff => absurd (show true = false from hoff) (by decide), h.memory⟩
  | false => rw [wrNr52_powerOff hv]; exact powerOff_inv h

theorem wrWave_inv {c : Config} {a : Apu} (h : a.InvFor c) (k : BitVec 4) (v : Byte) : (wrWave k v a).InvFor c :=
  ⟨h.ranges, h.dacGate, h.powerGate, memWrite_wf k v h.memory⟩

theorem busWrite_inv {c : Config} (hc : c.Valid) {a : Apu} (h : a.InvFor c) (addr : Addr) (v : Byte) :
    (busWrite c addr v a).InvFor c := by
  unfold busWrite
  cases targetOf addr with
  | wave k => exact wrWave_inv h k v
  | nr52 => exact wrNr52_inv h v
  | ctrl x => exact wrCtrl_inv hc h x v
  | unmapped => exact h

/-! ### A reset establishes it -/

theorem reset_inv (c : Config) : Apu.reset.InvFor c where
  ranges := ⟨Nat.zero_le _, Nat.zero_le _, Nat.zero_le _, Nat.zero_le _, Nat.zero_le _, Nat.zero_le _, Nat.zero_le _,
    Nat.zero_le _, Nat.zero_le _, by decide, by decide⟩
  dacGate := by decide
  powerGate := fun _ => by decide
  memory := rfl

/-- The boot writes are writes, one after another (70_reset_and_hazards.md R392). -/
theorem resetBlock_inv {c : Config} (hc : c.Valid) (b : Bool) : (resetBlock c b).InvFor c := by
  cases b with
  | true => exact reset_inv c
  | false =>
    have hfold : ∀ (l : List (Addr × Byte)) (a : Apu), a.InvFor c →
        (l.foldl (fun b x => busWrite c x.1 x.2 b) a).InvFor c := by
      intro l
      induction l with
      | nil => exact fun _ h => h
      | cons x l ih => exact fun a h => ih _ (busWrite_inv hc h x.1 x.2)
    exact hfold c.bootDefaults Apu.reset (reset_inv c)

/-- Settles O55. -/
theorem resetSatisfiesInvariant : Obligations.ResetSatisfiesInvariant := by
  unfold Obligations.ResetSatisfiesInvariant
  exact reset_inv Config.params

end Sys2Proof.Machine
end

/-! # A STEP keeps the invariant; the whole-machine rules (10_state.md R67; 60_exceptions.md R360; R47, R420) -/
section
namespace Sys2Proof.Machine
open Claims

/-! ### Ranges -/

section ranges
variable {c : Config} {a : Apu}

/-- A down-counter that may reload stays under a bound of both. -/
theorem reload_le {w B : Nat} {p : Prop} [Decidable p] {x y : BitVec w} (hx : x.toNat ≤ B) (hy : y.toNat ≤ B) :
    (if p then x else countDown y).toNat ≤ B := by
  split_ifs
  · exact hx
  · rw [countDown_toNat]; omega

theorem clockCycle_lengthCounter_le (c : Config) (n : ChanId) (a : Apu) :
    lengthCounter n (clockCycle c a) ≤ lengthCounter n a := by
  rw [clockCycle_lengthCounter_eq]
  split_ifs
  · exact Nat.sub_le _ 1
  · exact le_refl _

theorem clockCycle_sweepTimer_le (h : a.sweep.sweepTimer.toNat ≤ 8) : (clockCycle c a).sweep.sweepTimer.toNat ≤ 8 := by
  rw [(clockCycle_sweep_regs c a).1]
  split_ifs
  · rw [(clock128Hz_result (lengthClocks a)).timer]
    exact reload_le (sweepReload_le _) h
  · exact h

theorem clockCycle_counter_range (h1 : 1 ≤ a.fs.counter.toNat) (h8192 : a.fs.counter.toNat ≤ 8192) :
    1 ≤ (clockCycle c a).fs.counter.toNat ∧ (clockCycle c a).fs.counter.toNat ≤ 8192 := by
  have hfs := clockCycle_fs_toNat c a h1
  split_ifs at hfs <;> omega

/-- The ranges of a block whose length counters have not grown. -/
theorem rangesOk_of_lengths_le {b : Apu} (hpulse : ∀ n, (b.pulse n).frequencyTimer.toNat ≤ 8192)
    (hwave : b.ch3.frequencyTimer.toNat ≤ 4096) (hnoise : b.ch4.frequencyTimer.toNat ≤ maxDivisor c * 2 ^ 15)
    (hlen : ∀ n, lengthCounter n b ≤ lengthCounter n a) (hsweep : b.sweep.sweepTimer.toNat ≤ 8)
    (hfs : 1 ≤ b.fs.counter.toNat ∧ b.fs.counter.toNat ≤ 8192) (ha : a.RangesOk c) : b.RangesOk c := by
  obtain ⟨-, -, -, -, l1, l2, l3, l4, -⟩ := ha
  exact ⟨hpulse .ch1, hpulse .ch2, hwave, hnoise, (hlen .ch1).trans l1, (hlen .ch2).trans l2, (hlen .ch3).trans l3,
    (hlen .ch4).trans l4, hsweep, hfs⟩

theorem clockCycle_ranges (hc : c.Valid) (h : a.RangesOk c) : (clockCycle c a).RangesOk c := by
  have ⟨t1, t2, t3, t4, _, _, _, _, hsweep, h1, h8192⟩ := h
  refine rangesOk_of_lengths_le (fun n => ?pulse) ?wave ?noise (fun n => clockCycle_lengthCounter_le c n a)
    (clockCycle_sweepTimer_le hsweep) (clockCycle_counter_range h1 h8192) h
  case pulse =>
    rw [(clockCycle_pulse_timer c a n).1]
    exact reload_le (pulseReload_le _) (by cases n <;> assumption)
  case wave =>
    rw [(clockCycle_wave_timer c a).1]
    exact reload_le (waveReload_le _) t3
  case noise =>
    rw [(clockCycle_noise_timer c a).1]
    exact reload_le (noiseReload_le_max hc _) t4

end ranges

/-! ### The DAC gate and the power gate -/

theorem clockCycle_dacEnabled (c : Config) (a : Apu) (n : ChanId) : (clockCycle c a).dacEnabled n = a.dacEnabled n :=
  dacEnabled_of_dacReg (clockCycle_reg c a (by cases n <;> decide) (by cases n <;> decide))

theorem clockCycle_dacGateOk {c : Config} {a : Apu} (h : a.DacGateOk) : (clockCycle c a).DacGateOk := by
  rw [dacGateOk_iff] at h ⊢
  exact fun n hn => (clockCycle_dacEnabled c a n).trans (h n (enabled_of_clockCycle_enabled hn))

/-- A cleared block stays cleared in a `STEP`: with every stored byte 0 the length and envelope clocks and the sweep
calculation do nothing, and the LFSR shifts 0 (R67, R341). -/
theorem clockCycle_cleared {c : Config} {a : Apu} (h : a.Cleared) : (clockCycle c a).Cleared := by
  obtain ⟨hregs, e1, e2, e3, e4, l1, l2, l3, l4, v1, v2, v4, t1, t2, t4, hshadow, harmed, hlfsr⟩ := h
  have hsweep : (clockCycle c a).sweep.shadowFrequency = a.sweep.shadowFrequency ∧ (clockCycle c a).regs = a.regs := by
    rw [(clockCycle_sweep_regs c a).1, (clockCycle_sweep_regs c a).2]
    split_ifs
    · refine (clock128Hz_result (lengthClocks a)).keep fun hcalc => hcalc.1.2.1 ?_
      change period a.regs.nr10 = 0
      rw [hregs]
      rfl
    · exact ⟨rfl, rfl⟩
  have hen : ∀ n, a.enabled n = false → (clockCycle c a).enabled n = false := fun n hn =>
    Bool.eq_false_iff.mpr fun ht => Bool.eq_false_iff.mp hn (enabled_of_clockCycle_enabled ht)
  have hlen : ∀ n, lengthCounter n a = 0 → lengthCounter n (clockCycle c a) = 0 := fun n hn =>
    Nat.le_zero.mp (hn ▸ clockCycle_lengthCounter_le c n a)
  have henv : ∀ n, envTimer n (clockCycle c a) = envTimer n a ∧ volume n (clockCycle c a) = volume n a :=
    fun n => clockCycle_envelope_of_pace_zero c (by cases n <;> (simp only [envByte, hregs]; rfl))
  have hlfsr' : (clockCycle c a).ch4.lfsr = 0 := by
    rw [(clockCycle_noise_timer c a).2, hlfsr]
    split_ifs
    · exact lfsrShift_zero _
    · rfl
  exact ⟨hsweep.2.trans hregs, hen .ch1 e1, hen .ch2 e2, hen .ch3 e3, hen .ch4 e4,
    BitVec.eq_of_toNat_eq (hlen .ch1 (congrArg BitVec.toNat l1)),
    BitVec.eq_of_toNat_eq (hlen .ch2 (congrArg BitVec.toNat l2)),
    BitVec.eq_of_toNat_eq (hlen .ch3 (congrArg BitVec.toNat l3)),
    BitVec.eq_of_toNat_eq (hlen .ch4 (congrArg BitVec.toNat l4)),
    (BitVec.eq_of_toNat_eq (henv .ch1).2).trans v1, (BitVec.eq_of_toNat_eq (henv .ch2).2).trans v2,
    (BitVec.eq_of_toNat_eq (henv .ch4).2).trans v4, (BitVec.eq_of_toNat_eq (henv .ch1).1).trans t1,
    (BitVec.eq_of_toNat_eq (henv .ch2).1).trans t2, (BitVec.eq_of_toNat_eq (henv .ch4).1).trans t4,
    hsweep.1.trans hshadow, (clockCycle_sweepEnabled c a).trans harmed, hlfsr'⟩

theorem clockCycle_inv {c : Config} (hc : c.Valid) {a : Apu} (h : a.InvFor c) : (clockCycle c a).InvFor c where
  ranges := clockCycle_ranges hc h.ranges
  dacGate := clockCycle_dacGateOk h.dacGate
  powerGate := fun hoff => clockCycle_cleared (h.powerGate ((clockCycle_masterPower c a).symm.trans hoff))
  memory := by rw [clockCycle_waveRam]; exact h.memory

/-- Every operation keeps the invariant. -/
theorem BlockChange.inv {c : Config} (hc : c.Valid) {a b : Apu} {i : Instr} (h : BlockChange c a i b)
    (ha : a.InvFor c) : b.InvFor c := by
  cases h with
  | step => exact clockCycle_inv hc ha
  | reset b => exact resetBlock_inv hc b
  | write x v => exact wrCtrl_inv hc ha x v
  | wrNr52 v => exact wrNr52_inv ha v
  | wrWave k v => exact wrWave_inv ha k v
  | none => exact ha

theorem stepWith_inv {c : Config} (hc : c.Valid) {s t : State} (hs : s.apu.InvFor c) (h : stepWith c s = .next t) :
    t.apu.InvFor c := by
  obtain ⟨-, ⟨-, rfl⟩ | ⟨i, rest, -, he⟩⟩ := stepWith_next h
  · exact hs
  · exact (blockChange_of_execWith he).inv hc hs

/-- Settles O56: a step is idle or one operation, and every operation keeps the invariant. -/
theorem stepKeepsInvariant : Obligations.StepKeepsInvariant := by
  unfold Obligations.StepKeepsInvariant
  exact ⟨fun s _ hs h => stepWith_inv params_valid hs ((stepWith_params s).trans h),
    fun _ _ _ hc hs h => stepWith_inv hc hs h⟩

end Sys2Proof.Machine
end

/-! # Whole-machine rules: silence with the power off, who changes what, who enables a channel (R67, R90, R47, R420) -/
section
namespace Sys2Proof.Machine
open Claims

/-! ### Silence with the power off -/

theorem Apu.Cleared.enabled {a : Apu} (h : a.Cleared) (n : ChanId) : a.enabled n = false := by
  obtain ⟨-, e1, e2, e3, e4, -⟩ := h
  cases n <;> assumption

theorem channelOutput_of_cleared (c : Config) {a : Apu} (h : a.Cleared) (n : ChanId) : channelOutput c n a = 0 :=
  channelOutput_of_not_audible c (by rw [Apu.audible, h.enabled n, Bool.false_and])

theorem terminalSum_of_cleared {a : Apu} (h : a.Cleared) (t : Terminal) : terminalSum t a = 0 := by
  simp [terminalSum, channelOutput_of_cleared Config.params h]

/-- The latch of a cleared block stores (0, 0), the sum of four outputs 0 scaled. -/
theorem clockCycle_latch_of_cleared {a : Apu} (h : (clockCycle Config.params a).Cleared) :
    ((clockCycle Config.params a).left = a.left ∧ (clockCycle Config.params a).right = a.right) ∨
      ((clockCycle Config.params a).left = 0 ∧ (clockCycle Config.params a).right = 0) := by
  obtain ⟨hdue, hnot⟩ := of_exec_step (samplerInStep ⟨a, [], []⟩)
  dsimp only at hdue hnot
  by_cases hd : 4194304 ≤ a.sampleTimer.toNat + 44100
  · obtain ⟨-, hl, hr⟩ := hdue hd
    rw [terminalSum_of_cleared h, Nat.zero_mul, Nat.zero_mul, Nat.zero_div] at hl hr
    exact .inr ⟨BitVec.eq_of_toNat_eq hl, BitVec.eq_of_toNat_eq hr⟩
  · exact .inl (hnot (Nat.lt_of_not_le hd)).2

/-- An operation other than `WR NR52` and `RESET` keeps a cleared block, and its latched pair or (0, 0). -/
theorem BlockChange.cleared {a b : Apu} {i : Instr} (h : BlockChange Config.params a i b) (hoff : a.masterPower = false)
    (ha : a.Cleared) (hnr52 : ∀ v, i ≠ .wrNr52 v) (hreset : ∀ b, i ≠ .reset b) :
    b.masterPower = false ∧ b.Cleared ∧ ((b.left = a.left ∧ b.right = a.right) ∨ (b.left = 0 ∧ b.right = 0)) := by
  cases h with
  | step =>
    have hc : (clockCycle Config.params a).Cleared := clockCycle_cleared ha
    exact ⟨(clockCycle_masterPower _ a).trans hoff, hc, clockCycle_latch_of_cleared hc⟩
  | reset b => exact absurd rfl (hreset b)
  | write x v =>
    rw [wrCtrl_off _ x v hoff]
    exact ⟨hoff, ha, .inl ⟨rfl, rfl⟩⟩
  | wrNr52 v => exact absurd rfl (hnr52 v)
  | wrWave k v => exact ⟨hoff, ha, .inl ⟨rfl, rfl⟩⟩
  | none => exact ⟨hoff, ha, .inl ⟨rfl, rfl⟩⟩

/-- Settles O57: the invariant has the block cleared, and a cleared block stays cleared and puts out 0. -/
theorem poweredOffBlockIsSilent : Obligations.PoweredOffBlockIsSilent := by
  unfold Obligations.PoweredOffBlockIsSilent
  intro i s t hinv hoff hnr52 hreset h
  obtain ⟨hp, hc, hlatch⟩ := (blockChange_of_exec h).cleared hoff (hinv.powerGate hoff) hnr52 hreset
  exact ⟨hp, hc, channelOutput_of_cleared _ hc, hlatch⟩

/-! ### Which operations change what -/

/-- The parts of the block that belong to no channel and no stored byte, all but the power and wave RAM. -/
def SameClocks (a b : Apu) : Prop := b.fs = a.fs ∧ b.sampleTimer = a.sampleTimer ∧ b.left = a.left ∧ b.right = a.right

theorem sameClocks_iff (a b : Apu) : SameClocks a b ↔
    ¬(b.fs ≠ a.fs ∨ b.sampleTimer ≠ a.sampleTimer ∨ b.left ≠ a.left ∨ b.right ≠ a.right) := by
  simp only [SameClocks, not_or, not_not]

/-- A control register's write, accepted or not, changes only stored bytes and channels. -/
theorem wrCtrl_shared (c : Config) (x : CtrlReg) (v : Byte) (a : Apu) : (wrCtrl c x v a).masterPower = a.masterPower ∧
    (wrCtrl c x v a).waveRam = a.waveRam ∧ SameClocks a (wrCtrl c x v a) := by
  cases hp : a.masterPower with
  | false =>
    rw [wrCtrl_off c x v hp]
    exact ⟨hp, rfl, rfl, rfl, rfl, rfl⟩
  | true =>
    obtain hb | ⟨n, -, hb⟩ := (ctrlWrite_of_on c x v hp).onlyOwner
    · rw [hb]
      exact ⟨hp, rfl, rfl, rfl, rfl, rfl⟩
    · exact ⟨hb.masterPower.trans hp, hb.waveRam, hb.fs, hb.sampleTimer, hb.left, hb.right⟩

theorem wrNr52_shared (v : Byte) (a : Apu) : (wrNr52 v a).waveRam = a.waveRam ∧ SameClocks a (wrNr52 v a) := by
  cases hv : v.getLsbD 7 with
  | true => rw [wrNr52_powerOn hv]; exact ⟨rfl, rfl, rfl, rfl, rfl⟩
  | false => rw [wrNr52_powerOff hv]; exact ⟨rfl, rfl, rfl, rfl, rfl⟩

theorem BlockChange.masterPower_eq {c : Config} {a b : Apu} {i : Instr} (h : BlockChange c a i b) :
    b.masterPower = a.masterPower ∨ (∃ v, i = .wrNr52 v) ∨ ∃ b, i = .reset b := by
  cases h with
  | step => exact .inl (clockCycle_masterPower c a)
  | reset b => exact .inr (.inr ⟨b, rfl⟩)
  | write x v => exact .inl (wrCtrl_shared c x v a).1
  | wrNr52 v => exact .inr (.inl ⟨v, rfl⟩)
  | wrWave => exact .inl rfl
  | none => exact .inl rfl

theorem BlockChange.waveRam_eq {c : Config} {a b : Apu} {i : Instr} (h : BlockChange c a i b) :
    b.waveRam = a.waveRam ∨ (∃ k v, i = .wrWave k v) ∨ ∃ b, i = .reset b := by
  cases h with
  | step => exact .inl (clockCycle_waveRam c a)
  | reset b => exact .inr (.inr ⟨b, rfl⟩)
  | write x v => exact .inl (wrCtrl_shared c x v a).2.1
  | wrNr52 v => exact .inl (wrNr52_shared v a).1
  | wrWave k v => exact .inr (.inl ⟨k, v, rfl⟩)
  | none => exact .inl rfl

theorem BlockChange.sameClocks {c : Config} {a b : Apu} {i : Instr} (h : BlockChange c a i b) :
    SameClocks a b ∨ i = .step ∨ ∃ b, i = .reset b := by
  cases h with
  | step => exact .inr (.inl rfl)
  | reset b => exact .inr (.inr ⟨b, rfl⟩)
  | write x v => exact .inl (wrCtrl_shared c x v a).2.2
  | wrNr52 v => exact .inl (wrNr52_shared v a).2
  | wrWave => exact .inl ⟨rfl, rfl, rfl, rfl⟩
  | none => exact .inl ⟨rfl, rfl, rfl, rfl⟩

/-- The operations that change the block have kinds 0, 1 and 4; `RD` is kind 2 and `SAMPLE` kind 3 (R112 to R115). -/
theorem BlockChange.eq_of_kind {c : Config} {a b : Apu} {i : Instr} (h : BlockChange c a i b)
    (hk : kindOf (encode i) = 2#4 ∨ kindOf (encode i) = 3#4) : b = a := by
  have hwrite : ∀ (x : Addr) (v : Byte), ¬(kindOf (traceWord 1 x v) = 2#4 ∨ kindOf (traceWord 1 x v) = 3#4) :=
    fun x v => by rw [kindOf_traceWord]; decide
  cases h with
  | step => exact absurd hk (by decide)
  | reset b => cases b <;> exact absurd hk (by decide)
  | write x v => rw [encode_ofWrite] at hk; exact absurd hk (hwrite _ v)
  | wrNr52 v => exact absurd hk (hwrite nr52Addr v)
  | wrWave k v => exact absurd hk (hwrite (waveAddr k) v)
  | none => rfl

/-- Settles O58, form by form. -/
theorem onlyTheseOperationsChange : Obligations.OnlyTheseOperationsChange := by
  unfold Obligations.OnlyTheseOperationsChange
  intro i s t h
  have hb := blockChange_of_exec h
  exact ⟨hb.masterPower_eq.resolve_left, hb.waveRam_eq.resolve_left,
    fun hne => hb.sameClocks.resolve_left fun hsame => (sameClocks_iff _ _).mp hsame hne, hb.eq_of_kind⟩

/-! ### What enables a channel -/

/-- A write that enables a channel is the trigger of that channel, with its DAC on. -/
theorem CtrlWrite.enables {c : Config} {a b : Apu} {x : CtrlReg} {v : Byte} {n : ChanId} (h : CtrlWrite c a x v b)
    (hoff : a.enabled n = false) (hon : b.enabled n = true) :
    x = n.nrx4 ∧ v.getLsbD 7 = true ∧ a.dacEnabled n = true := by
  have habsurd : ¬a.enabled n = true := by rw [hoff]; exact Bool.false_ne_true
  cases h with
  | store => exact absurd hon habsurd
  | length m =>
    rw [loadLength_enabled] at hon
    exact absurd hon habsurd
  | dac m => exact absurd (dacGate_enabled hon).1 habsurd
  | trigger m _ hv =>
    by_cases hnm : n = m
    · subst hnm
      have hreg : n.nrx4 ≠ n.dacReg := by cases n <;> decide
      exact ⟨rfl, hv, (dacEnabled_store hreg).symm.trans (trigger_enabled hon)⟩
    · rw [(onlyChannel_trigger c m _).enabled hnm] at hon
      exact absurd hon habsurd

theorem wrNr52_enabled {v : Byte} {a : Apu} {n : ChanId} (h : (wrNr52 v a).enabled n = true) : a.enabled n = true := by
  cases hv : v.getLsbD 7 with
  | true => rw [wrNr52_powerOn hv] at h; exact h
  | false => rw [wrNr52_powerOff hv] at h; cases n <;> exact absurd h Bool.false_ne_true

theorem BlockChange.enables {c : Config} {a b : Apu} {i : Instr} {n : ChanId} (h : BlockChange c a i b)
    (hoff : a.enabled n = false) (hon : b.enabled n = true) :
    (∃ v, i = .ofWrite n.nrx4 v ∧ v.getLsbD 7 = true ∧ a.masterPower = true ∧ a.dacEnabled n = true) ∨
      i = .reset false := by
  have habsurd : ¬a.enabled n = true := by rw [hoff]; exact Bool.false_ne_true
  cases h with
  | step => exact absurd (enabled_of_clockCycle_enabled hon) habsurd
  | reset b =>
    cases b with
    | true => cases n <;> exact absurd hon Bool.false_ne_true
    | false => exact .inr rfl
  | write x v =>
    cases hp : a.masterPower with
    | false =>
      rw [wrCtrl_off c x v hp] at hon
      exact absurd hon habsurd
    | true =>
      obtain ⟨rfl, hv, hdac⟩ := (ctrlWrite_of_on c x v hp).enables hoff hon
      exact .inl ⟨v, rfl, hv, rfl, hdac⟩
  | wrNr52 => exact absurd (wrNr52_enabled hon) habsurd
  | wrWave => exact absurd hon habsurd
  | none => exact absurd hon habsurd

/-- Settles O59: of all that changes the block only a trigger and the boot writes set a flag. -/
theorem enabledIsSetOnlyByTrigger : Obligations.EnabledIsSetOnlyByTrigger := by
  unfold Obligations.EnabledIsSetOnlyByTrigger
  exact fun _ _ _ _ h => (blockChange_of_exec h).enables

end Sys2Proof.Machine
end

/-! # The control registers, write by write (40_pulse_channels.md R151 to R174; 41, 42, 43; 46_mixer.md R311, R312) -/
section
namespace Sys2Proof.Machine
open Claims

/-! ### Store-only registers and length loads -/

theorem exec_ofWrite_store {x : CtrlReg} {v : Byte} {s : State}
    (hstore : wrCtrl Config.params x v s.apu = acceptWrite x v id s.apu) (hp : s.apu.masterPower = true) :
    exec (.ofWrite x v) s = s.commit (s.apu.store x v) := by
  rw [exec_ofWrite, hstore, acceptWrite_on hp]
  rfl

/-- Settles O12: the eight writes are the store alone; the words are the format WR of R114 and the fields are bits of
the byte. -/
theorem storeOnlyRegisters : Obligations.StoreOnlyRegisters := by
  unfold Obligations.StoreOnlyRegisters
  refine ⟨fun v s hp => ?writes, fun v => ?words, fun v => ?fields, fun lo hi => ?low⟩
  case writes =>
    exact ⟨exec_ofWrite_store (x := .nr10) rfl hp, exec_ofWrite_store (x := .nr13) rfl hp,
      exec_ofWrite_store (x := .nr23) rfl hp, exec_ofWrite_store (x := .nr32) rfl hp,
      exec_ofWrite_store (x := .nr33) rfl hp, exec_ofWrite_store (x := .nr43) rfl hp,
      exec_ofWrite_store (x := .nr50) rfl hp, exec_ofWrite_store (x := .nr51) rfl hp⟩
  case words => exact ⟨rfl, rfl, rfl, rfl, rfl, rfl, rfl, rfl⟩
  case fields =>
    exact ⟨sweepPeriodOf_toNat v, rfl, sweepShiftOf_toNat v, volumeShiftCodeOf_toNat v, masterVolumeOf_left_toNat v,
      masterVolumeOf_right_toNat v, rfl, rfl, rfl, rfl, rfl, rfl, rfl, rfl⟩
  case low =>
    have := lo.isLt
    rw [freqOf_toNat]
    omega

theorem exec_ofWrite_length (n : ChanId) (v : Byte) {s : State} (hp : s.apu.masterPower = true) :
    exec (.ofWrite n.lengthReg v) s = s.commit (loadLength Config.params n v (s.apu.store n.lengthReg v)) := by
  have hwrite : wrCtrl Config.params n.lengthReg v s.apu =
      acceptWrite n.lengthReg v (loadLength Config.params n v) s.apu := by cases n <;> rfl
  rw [exec_ofWrite, hwrite, acceptWrite_on hp]

/-- Settles O13: each write is the store and the length load of its channel. -/
theorem lengthLoadRegisters : Obligations.LengthLoadRegisters := by
  unfold Obligations.LengthLoadRegisters
  intro v s hp
  rw [← lengthLoad_eq, ← waveLengthLoad_eq]
  exact ⟨exec_ofWrite_length .ch1 v hp, exec_ofWrite_length .ch2 v hp, exec_ofWrite_length .ch3 v hp,
    exec_ofWrite_length .ch4 v hp⟩

/-! ### The triggers in numbers -/

/-- A write to NRx4 is the store and, with bit 7 set, the trigger. -/
theorem exec_ofWrite_nrx4 (n : ChanId) (v : Byte) {s : State} (hp : s.apu.masterPower = true) :
    exec (.ofWrite n.nrx4 v) s = if v.toNat / 128 = 0 then s.commit (s.apu.store n.nrx4 v)
      else s.commit (trigger Config.params n (s.apu.store n.nrx4 v)) := by
  have hwrite : wrCtrl Config.params n.nrx4 v s.apu =
      acceptWrite n.nrx4 v (fun b => if triggerOf v then trigger Config.params n b else b) s.apu := by cases n <;> rfl
  rw [exec_ofWrite, hwrite, acceptWrite_on hp, triggerOf_eq]
  by_cases hv : v.toNat / 128 = 0
  · simp [hv]
  · simp [hv]

theorem dacEnabled_pulse (n : PulseId) (a : Apu) :
    a.dacEnabled n.chan = decide ((a.reg n.nrx2).toNat / 8 ≠ 0) := by
  rw [← envDacOf_eq]
  cases n <;> rfl

/-- The part of the trigger that CH1 and CH2 share (R165). -/
theorem pulseRestart_eq (n : PulseId) (a : Apu) : pulseRestart n a = a.setPulse n
    { enabled := decide ((a.reg n.nrx2).toNat / 8 ≠ 0)
      frequencyTimer := BitVec.ofNat 14 ((2048 - frequency (a.reg n.nrx3) (a.reg n.nrx4)) * 4)
      lengthCounter := if (a.pulse n).lengthCounter = 0#7 then 64#7 else (a.pulse n).lengthCounter
      dutyStep := (a.pulse n).dutyStep
      currentVolume := BitVec.ofNat 4 ((a.reg n.nrx2).toNat / 16)
      envTimer := BitVec.ofNat 3 ((a.reg n.nrx2).toNat % 8) } := by
  have hreload : pulseReload (a.pulseFrequency n) =
      BitVec.ofNat 14 ((2048 - frequency (a.reg n.nrx3) (a.reg n.nrx4)) * 4) := pulseReload_freqOf _ _
  rw [pulseRestart, hreload, initialVolumeOf_eq, paceOf_eq, dacEnabled_pulse]

theorem sweepReload_eq (r : Byte) :
    sweepReload (sweepPeriodOf r) = BitVec.ofNat 4 (if period r = 0 then 8 else period r) := by
  have h : ∀ p : BitVec 3, sweepReload p = BitVec.ofNat 4 (if p.toNat = 0 then 8 else p.toNat) := by decide
  rw [period, ← sweepPeriodOf_toNat]
  exact h _

theorem sweepArmed_eq (r : Byte) : sweepArmed r = decide (period r ≠ 0 ∨ r.toNat % 8 ≠ 0) := by
  rw [period, ← sweepPeriodOf_toNat, ← sweepShiftOf_toNat, Bool.eq_iff_iff]
  simp [sweepArmed, ← BitVec.toNat_inj]

theorem freqOf_eq (lo hi : Byte) : freqOf lo hi = BitVec.ofNat 11 (frequency lo hi) := by
  have h : frequency lo hi = (freqOf lo hi).toNat := (freqOf_toNat lo hi).symm
  rw [h, BitVec.ofNat_toNat, BitVec.setWidth_eq]

/-- The sweep part of the CH1 trigger (R193): the unit, and `enabled` after the overflow check. -/
theorem sweepTrigger_eq (a : Apu) : sweepTrigger a = (a.setSweep
    { shadowFrequency := BitVec.ofNat 11 (frequency a.regs.nr13 a.regs.nr14)
      sweepTimer := BitVec.ofNat 4 (if period a.regs.nr10 = 0 then 8 else period a.regs.nr10)
      sweepEnabled := decide (period a.regs.nr10 ≠ 0 ∨ a.regs.nr10.toNat % 8 ≠ 0) }).setCh1
    { a.ch1 with
      enabled := a.ch1.enabled &&
        decide (¬(a.regs.nr10.toNat % 8 ≠ 0 ∧ swept (frequency a.regs.nr13 a.regs.nr14) a.regs.nr10 > 2047)) } := by
  have hcalc : sweepCalc (a.pulseFrequency .ch1) a.regs.nr10 =
      swept (frequency a.regs.nr13 a.regs.nr14) a.regs.nr10 := by
    rw [sweepCalc_eq, show (a.pulseFrequency .ch1).toNat = frequency a.regs.nr13 a.regs.nr14 from freqOf_toNat _ _]
    rfl
  have hfreq : a.pulseFrequency .ch1 = BitVec.ofNat 11 (frequency a.regs.nr13 a.regs.nr14) := freqOf_eq _ _
  have hreload : sweepReload a.sweepPeriod =
      BitVec.ofNat 4 (if period a.regs.nr10 = 0 then 8 else period a.regs.nr10) := sweepReload_eq _
  have hshift : (a.sweepShift ≠ 0#3) = (a.regs.nr10.toNat % 8 ≠ 0) := propext (not_congr (sweepShift_eq_zero a))
  have hcases := sweepTrigger_cases a
  rw [hcalc, hfreq, hreload, sweepArmed_eq, hshift] at hcases
  obtain ⟨hnonzero, hover, he⟩ | ⟨hno, he⟩ := hcases
  · have hcheck : decide (¬(a.regs.nr10.toNat % 8 ≠ 0 ∧
        swept (frequency a.regs.nr13 a.regs.nr14) a.regs.nr10 > 2047)) = false :=
      decide_eq_false (not_not.mpr ⟨hnonzero, hover⟩)
    rw [he, hcheck, Bool.and_false]
    rfl
  · rw [he, decide_eq_true hno, Bool.and_true]
    rfl

theorem triggerWave_eq (a : Apu) : triggerWave Config.params a = a.setCh3
    { enabled := decide (a.regs.nr30.toNat / 128 ≠ 0)
      frequencyTimer := BitVec.ofNat 13 ((2048 - frequency a.regs.nr33 a.regs.nr34) * 2)
      lengthCounter := if a.ch3.lengthCounter = 0#9 then 64#9 else a.ch3.lengthCounter
      position := 0#5 } := by
  have hreload : waveReload a.waveFrequency = BitVec.ofNat 13 ((2048 - frequency a.regs.nr33 a.regs.nr34) * 2) :=
    waveReload_freqOf _ _
  have hdac : a.dacEnabled .ch3 = decide (a.regs.nr30.toNat / 128 ≠ 0) := waveDacOf_eq _
  rw [triggerWave, hreload, hdac]
  rfl

theorem triggerNoise_eq (a : Apu) : triggerNoise Config.params a = a.setCh4
    { enabled := decide (a.regs.nr42.toNat / 8 ≠ 0)
      frequencyTimer := BitVec.ofNat 22 (divisors.getD (a.regs.nr43.toNat % 8) 0 * 2 ^ (a.regs.nr43.toNat / 16))
      lengthCounter := if a.ch4.lengthCounter = 0#7 then 64#7 else a.ch4.lengthCounter
      currentVolume := BitVec.ofNat 4 (a.regs.nr42.toNat / 16)
      envTimer := BitVec.ofNat 3 (a.regs.nr42.toNat % 8)
      lfsr := 0x7FFF#15 } := by
  have hdac : a.dacEnabled .ch4 = decide (a.regs.nr42.toNat / 8 ≠ 0) := envDacOf_eq _
  rw [triggerNoise, hdac, initialVolumeOf_eq, paceOf_eq, ← noiseReload_params, BitVec.ofNat_toNat, BitVec.setWidth_eq]
  rfl

/-! ### NR14, NR24, NR34, NR44 -/

/-- Settles O16: the restart CH1 shares with CH2, then the sweep part on the block it leaves. -/
theorem ch1TriggerRegister : Obligations.Ch1TriggerRegister := by
  unfold Obligations.Ch1TriggerRegister
  intro v s hp
  refine (exec_ofWrite_nrx4 .ch1 v hp).trans (if_congr Iff.rfl rfl ?_)
  rw [Bool.decide_and]
  change s.commit (sweepTrigger (pulseRestart .ch1 (s.apu.store .nr14 v))) = _
  rw [sweepTrigger_eq, pulseRestart_eq]
  rfl

/-- Settles O17. -/
theorem ch2TriggerRegister : Obligations.Ch2TriggerRegister := by
  unfold Obligations.Ch2TriggerRegister
  refine ⟨fun v s hp => ?_, fun _ => rfl, fun _ => rfl⟩
  refine (exec_ofWrite_nrx4 .ch2 v hp).trans (if_congr Iff.rfl rfl ?_)
  exact congrArg s.commit (pulseRestart_eq .ch2 (s.apu.store .nr24 v))

/-- Settles O18. -/
theorem waveTriggerRegister : Obligations.WaveTriggerRegister := by
  unfold Obligations.WaveTriggerRegister
  refine ⟨fun v s hp => ?_, fun _ => rfl⟩
  refine (exec_ofWrite_nrx4 .ch3 v hp).trans (if_congr Iff.rfl rfl ?_)
  exact congrArg s.commit (triggerWave_eq (s.apu.store .nr34 v))

/-- Settles O19. -/
theorem noiseTriggerRegister : Obligations.NoiseTriggerRegister := by
  unfold Obligations.NoiseTriggerRegister
  refine ⟨fun v s hp => ?_, fun _ => rfl⟩
  refine (exec_ofWrite_nrx4 .ch4 v hp).trans (if_congr Iff.rfl rfl ?_)
  exact congrArg s.commit (triggerNoise_eq (s.apu.store .nr44 v))

/-- A trigger leaves `enabled` equal to the DAC view; on CH1 this takes the overflow check to pass. -/
theorem trigger_enabled_eq (c : Config) (n : ChanId) (a : Apu) (hsweep : n = .ch1 →
    a.regs.nr10.toNat % 8 = 0 ∨ swept (frequency a.regs.nr13 a.regs.nr14) a.regs.nr10 ≤ 2047) :
    (trigger c n a).enabled n = a.dacEnabled n := by
  cases n with
  | ch1 =>
    have hno : ¬(a.regs.nr10.toNat % 8 ≠ 0 ∧ swept (frequency a.regs.nr13 a.regs.nr14) a.regs.nr10 > 2047) :=
      fun ⟨hshift, hover⟩ => (hsweep rfl).elim hshift (Nat.not_le_of_lt hover)
    change (sweepTrigger (pulseRestart .ch1 a)).enabled .ch1 = _
    rw [sweepTrigger_eq]
    exact (congrArg (a.dacEnabled .ch1 && ·) (decide_eq_true hno)).trans (Bool.and_true _)
  | ch2 => rfl
  | ch3 => rfl
  | ch4 => rfl

/-- Settles O20. -/
theorem triggerReactivatesChannel : Obligations.TriggerReactivatesChannel := by
  unfold Obligations.TriggerReactivatesChannel
  intro n v s hp hv hsweep
  have hset : ¬v.toNat / 128 = 0 := by rw [hv]; exact Nat.one_ne_zero
  have hreg : n.nrx4 ≠ n.dacReg := by cases n <;> decide
  refine ⟨_, (exec_ofWrite_nrx4 n v hp).trans (if_neg hset), ?_⟩
  dsimp only
  rw [trigger_enabled_eq, dacEnabled_store hreg]
  rintro rfl
  exact hsweep rfl

end Sys2Proof.Machine
end

/-! # Reads, the power-off register file and unmapped addresses (45_register_file.md R282 to R291; R175 to R182, R217 to
R231, R240 to R244, R313, R314) -/
section
namespace Sys2Proof.Machine
open Claims

/-! ### A read of a control register -/

/-- With the power on a read is the stored byte with the mask's bits set (R291). -/
theorem exec_ofRead_on {x : CtrlReg} {m : Byte} {s : State} (hm : Config.params.readMask x = m)
    (hp : s.apu.masterPower = true) : exec (.ofRead x) s = s.reply (.byte (s.apu.reg x ||| m)) := by
  rw [exec_ofRead, readCtrl_on hp, hm]

/-- A register without hidden bits reads as stored. -/
theorem exec_ofRead_stored {x : CtrlReg} {s : State} (hm : Config.params.readMask x = 0#8)
    (hp : s.apu.masterPower = true) : exec (.ofRead x) s = s.reply (.byte (s.apu.reg x)) := by
  rw [exec_ofRead_on hm hp, BitVec.or_zero]

/-- A write-only register reads as all ones. -/
theorem exec_ofRead_hidden {x : CtrlReg} {s : State} (hm : Config.params.readMask x = 0xFF#8)
    (hp : s.apu.masterPower = true) : exec (.ofRead x) s = s.reply (.byte 0xFF#8) := by
  rw [exec_ofRead_on hm hp]
  exact congrArg (fun v => s.reply (.byte v)) BitVec.or_allOnes

theorem exec_ofRead_off (x : CtrlReg) {s : State} (hoff : s.apu.masterPower = false) :
    exec (.ofRead x) s = s.reply (.byte 0) := by
  rw [exec_ofRead, readCtrl_off hoff]

/-- Settles O29. -/
theorem readsAreZeroWithPowerOff : Obligations.ReadsAreZeroWithPowerOff := by
  unfold Obligations.ReadsAreZeroWithPowerOff
  exact fun x _ => exec_ofRead_off x

/-- Settles O26. -/
theorem pulseRegisterReads : Obligations.PulseRegisterReads := by
  unfold Obligations.PulseRegisterReads
  refine ⟨fun s hp => ?_, rfl, rfl, rfl, rfl, rfl, rfl, rfl, rfl⟩
  exact ⟨exec_ofRead_on (x := .nr11) rfl hp, exec_ofRead_stored (x := .nr12) rfl hp,
    exec_ofRead_hidden (x := .nr13) rfl hp, exec_ofRead_on (x := .nr14) rfl hp, exec_ofRead_on (x := .nr21) rfl hp,
    exec_ofRead_stored (x := .nr22) rfl hp, exec_ofRead_hidden (x := .nr23) rfl hp,
    exec_ofRead_on (x := .nr24) rfl hp⟩

/-- Settles O27. -/
theorem waveNoiseRegisterReads : Obligations.WaveNoiseRegisterReads := by
  unfold Obligations.WaveNoiseRegisterReads
  refine ⟨fun s hp => ?_, rfl, rfl, rfl, rfl, rfl, rfl, rfl, rfl, rfl⟩
  exact ⟨exec_ofRead_on (x := .nr30) rfl hp, exec_ofRead_hidden (x := .nr31) rfl hp,
    exec_ofRead_on (x := .nr32) rfl hp, exec_ofRead_hidden (x := .nr33) rfl hp, exec_ofRead_on (x := .nr34) rfl hp,
    exec_ofRead_hidden (x := .nr41) rfl hp, exec_ofRead_stored (x := .nr42) rfl hp,
    exec_ofRead_stored (x := .nr43) rfl hp, exec_ofRead_on (x := .nr44) rfl hp⟩

/-- Settles O28, power state by power state. -/
theorem sweepAndMixerRegisterReads : Obligations.SweepAndMixerRegisterReads := by
  unfold Obligations.SweepAndMixerRegisterReads
  refine ⟨fun s => ?_, rfl, rfl, rfl⟩
  cases hp : s.apu.masterPower with
  | true =>
    exact ⟨exec_ofRead_on (x := .nr10) rfl hp, exec_ofRead_stored (x := .nr50) rfl hp,
      exec_ofRead_stored (x := .nr51) rfl hp⟩
  | false => exact ⟨exec_ofRead_off .nr10 hp, exec_ofRead_off .nr50 hp, exec_ofRead_off .nr51 hp⟩

/-! ### Power-off and power-on -/

/-- Settles O22: the write is `powerOff`, field by field. -/
theorem powerOffClearsChannels : Obligations.PowerOffClearsChannels := by
  unfold Obligations.PowerOffClearsChannels
  intro v s hv
  rw [exec_wrNr52, wrNr52_powerOff hv]
  rfl

theorem powerOff_reg (a : Apu) (x : CtrlReg) : (powerOff a).reg x = 0#8 := by cases x <;> rfl

/-- With no channel enabled NR52 reads as the power bit and the three ones (R292). -/
theorem exec_rdNr52_silent {s : State} (h1 : s.apu.ch1.enabled = false) (h2 : s.apu.ch2.enabled = false)
    (h3 : s.apu.ch3.enabled = false) (h4 : s.apu.ch4.enabled = false) :
    exec .rdNr52 s = s.reply (.byte (BitVec.ofNat 8 (s.apu.masterPower.toNat * 128 + 112))) := by
  rw [exec_rdNr52, Apu.statusByte_eq_ofNat, h1, h2, h3, h4]
  rfl

/-- Settles O23: while the power is off the gate answers every access, and restored it shows registers of zeros. -/
theorem poweredOffRegisterFile : Obligations.PoweredOffRegisterFile := by
  unfold Obligations.PoweredOffRegisterFile
  intro v u s hv hu
  have hoff : exec (.wrNr52 v) s = s.commit (powerOff s.apu) := by rw [exec_wrNr52, wrNr52_powerOff hv]
  have hon : ∀ t : State, exec (.wrNr52 u) t = t.commit (t.apu.setPower true) := fun t => by
    rw [exec_wrNr52, wrNr52_powerOn hu]
  have hread : ∀ x, exec (.ofRead x) { s with apu := (powerOff s.apu).setPower true } =
      .next { s with
        apu := (powerOff s.apu).setPower true
        answers := .byte (Config.params.readMask x) :: s.answers } := fun x => by
    rw [exec_ofRead_on rfl rfl]
    change State.reply _ (.byte ((powerOff s.apu).reg x ||| _)) = _
    rw [powerOff_reg, BitVec.zero_or]
    rfl
  exact ⟨_, _, hoff, hon _, fun x => exec_ofRead_off x rfl, fun x w => exec_ofWrite_off x w rfl,
    exec_rdNr52_silent rfl rfl rfl rfl, fun _ => rfl, exec_rdNr52_silent rfl rfl rfl rfl, hread, hread .nr13,
    hread .nr10, hread .nr12⟩

/-! ### Wave RAM and `SAMPLE` -/

theorem resetBlock_waveRam (b : Bool) : (resetBlock Config.params b).waveRam = [] := by cases b <;> rfl

/-- Settles O31. -/
theorem waveRamRead : Obligations.WaveRamRead := by
  unfold Obligations.WaveRamRead
  refine ⟨fun _ _ => rfl, fun v s => ?power, fun b k s => ?reset, fun k => ?word⟩
  case power => exact ⟨_, exec_wrNr52 v s, (wrNr52_shared v s.apu).1⟩
  case reset =>
    refine ⟨{ s with apu := resetBlock Config.params b }, rfl, ?_⟩
    change State.reply _ (.byte (waveByte (resetBlock Config.params b).waveRam k)) = _
    rw [resetBlock_waveRam]
    rfl
  case word =>
    have hupper : 2#4 ++ 0#4 ++ waveAddr k = 0x20FF3#20 ++ k := by revert k; decide
    exact congrArg (· ++ 0x00#8) hupper

/-- Settles O32. -/
theorem sampleReturnsLatchedPair : Obligations.SampleReturnsLatchedPair := by
  unfold Obligations.SampleReturnsLatchedPair
  exact fun _ => rfl

/-! ### Unmapped addresses -/

/-- The bus address of every control register lies in 0xFF10 to 0xFF25, away from the two holes (R85). -/
theorem ctrlAddr_range (x : CtrlReg) : 0xFF10 ≤ x.addr.toNat ∧ x.addr.toNat ≤ 0xFF25 ∧ x.addr.toNat ≠ 0xFF15 ∧
    x.addr.toNat ≠ 0xFF1F := by cases x <;> decide

theorem waveAddr_range {a : Addr} (h : a.extractLsb' 4 12 = 0xFF3#12) : 0xFF30 ≤ a.toNat ∧ a.toNat ≤ 0xFF3F := by
  have hnum := congrArg BitVec.toNat h
  rw [BitVec.extractLsb'_toNat, Nat.shiftRight_eq_div_pow] at hnum
  have hlt := a.isLt
  change a.toNat / 2 ^ 4 % 2 ^ 12 = 0xFF3 at hnum
  omega

/-- The addresses of the two windows, without the two holes. -/
def InWindow (n : Nat) : Prop :=
  (0xFF10 ≤ n ∧ n ≤ 0xFF26 ∧ n ≠ 0xFF15 ∧ n ≠ 0xFF1F) ∨ (0xFF30 ≤ n ∧ n ≤ 0xFF3F)

theorem mapped_of_inWindow {a : Addr} (h : InWindow a.toNat) : targetOf a ≠ .unmapped := by
  have hctrl : ∀ d : Fin 23, d ≠ 5 → d ≠ 15 → targetOf (BitVec.ofNat 16 (0xFF10 + d)) ≠ .unmapped := by decide
  have hwave : ∀ d : Fin 16, targetOf (BitVec.ofNat 16 (0xFF30 + d)) ≠ .unmapped := by decide
  rw [← BitVec.setWidth_eq a, ← BitVec.ofNat_toNat]
  obtain ⟨hlo, hhi, h15, h1F⟩ | ⟨hlo, hhi⟩ := h
  · have hd := hctrl ⟨a.toNat - 0xFF10, by omega⟩ (by rw [Ne, Fin.ext_iff]; change ¬a.toNat - 0xFF10 = 5; omega)
      (by rw [Ne, Fin.ext_iff]; change ¬a.toNat - 0xFF10 = 15; omega)
    rwa [show 0xFF10 + (a.toNat - 0xFF10) = a.toNat by omega] at hd
  · have hd := hwave ⟨a.toNat - 0xFF30, by omega⟩
    rwa [show 0xFF30 + (a.toNat - 0xFF30) = a.toNat by omega] at hd

theorem inWindow_of_mapped {a : Addr} (h : targetOf a ≠ .unmapped) : InWindow a.toNat := by
  cases ht : targetOf a with
  | wave k => exact .inr (waveAddr_range (targetOf_wave_iff.mp ⟨k, ht⟩))
  | nr52 =>
    rw [targetOf_nr52_iff.mp ht]
    exact .inl (by decide)
  | ctrl x =>
    obtain ⟨hlo, hhi, h15, h1F⟩ := ctrlAddr_range x
    rw [targetOf_ctrl_iff.mp ht]
    exact .inl ⟨hlo, by omega, h15, h1F⟩
  | unmapped => exact absurd ht h

/-- Settles O25. -/
theorem unmappedAccesses : Obligations.UnmappedAccesses := by
  unfold Obligations.UnmappedAccesses
  refine ⟨fun a => ?_, fun a v s h => ?_⟩
  · rw [isUnmapped_iff]
    exact ⟨fun hu hw => mapped_of_inWindow hw hu, fun hn => not_not.mp fun hm => hn (inWindow_of_mapped hm)⟩
  · have hu := (isUnmapped_iff a).mp h
    rw [writeInstr_unmapped hu, readInstr_unmapped hu]
    exact ⟨rfl, rfl, rfl, rfl⟩

end Sys2Proof.Machine
end

/-! # Fixed words, reset states and the ports (30_encoding.md; 70_reset_and_hazards.md; 47_top_level.md R338 to R345) -/
section
namespace Sys2Proof.Machine
open Claims

/-- Settles O1: eighteen words, decoded. -/
theorem specWordsDecode : Obligations.SpecWordsDecode := by
  unfold Obligations.SpecWordsDecode
  decide

/-! ### Reset -/

/-- Settles O33. -/
theorem resetWithBootRom : Obligations.ResetWithBootRom := by
  unfold Obligations.ResetWithBootRom
  exact fun _ => rfl

/-- The post-boot state (70_reset_and_hazards.md R396). -/
def bootBlock : Apu where
  regs := ⟨0x80, 0xBF, 0xF3, 0xFF, 0xBF, 0x3F, 0x00, 0xFF, 0xBF, 0x7F, 0xFF, 0x9F, 0xFF, 0xBF, 0xFF, 0x00, 0x00, 0xBF,
    0x77, 0xF3⟩
  masterPower := true
  waveRam := []
  ch1 := ⟨true, 4, 1, 0, 15, 3⟩
  sweep := ⟨2047, 8, false⟩
  ch2 := ⟨false, 4, 1, 0, 0, 0⟩
  ch3 := ⟨false, 2, 1, 0⟩
  ch4 := ⟨false, 8, 1, 0, 0, 0x7FFF⟩
  fs := ⟨8192, 0⟩
  sampleTimer := 0
  left := 0
  right := 0

/-- The boot writes evaluate, since they start from the reset values. -/
theorem resetBlock_boot : resetBlock Config.params false = bootBlock := rfl

/-- Settles O34. -/
theorem resetWithoutBootRom : Obligations.ResetWithoutBootRom := by
  unfold Obligations.ResetWithoutBootRom
  exact fun s => congrArg s.commit resetBlock_boot

/-- The boot default of each control register (70_reset_and_hazards.md R392). -/
def ctrlDefaults : List (CtrlReg × Byte) :=
  [(.nr10, 0x80), (.nr11, 0xBF), (.nr12, 0xF3), (.nr13, 0xFF), (.nr14, 0xBF), (.nr21, 0x3F), (.nr22, 0x00),
    (.nr23, 0xFF), (.nr24, 0xBF), (.nr30, 0x7F), (.nr31, 0xFF), (.nr32, 0x9F), (.nr33, 0xFF), (.nr34, 0xBF),
    (.nr41, 0xFF), (.nr42, 0x00), (.nr43, 0x00), (.nr44, 0xBF), (.nr50, 0x77), (.nr51, 0xF3)]

theorem bootDefaults_eq : Config.params.bootDefaults =
    (nr52Addr, 0xF1) :: ctrlDefaults.map fun p => (p.1.addr, p.2) := rfl

theorem bootBlock_readCtrl : ∀ p ∈ ctrlDefaults, readCtrl Config.params p.1 bootBlock = p.2 := by decide

theorem bootBlock_statusByte : bootBlock.statusByte = 0xF1 := by
  rw [Apu.statusByte_eq_ofNat]
  rfl

theorem busRead_addr (c : Config) (x : CtrlReg) (a : Apu) : busRead c x.addr a = readCtrl c x a := by
  rw [busRead, targetOf_ctrl_iff.mpr rfl]

theorem busRead_nr52 (c : Config) (a : Apu) : busRead c nr52Addr a = a.statusByte := by
  rw [busRead, targetOf_nr52_iff.mpr rfl]

theorem bootReadsBack_params : BootReadsBack Config.params := by
  rw [BootReadsBack, bootDefaults_eq, resetBlock_boot]
  intro w hw
  obtain rfl | hw := List.mem_cons.mp hw
  · exact (busRead_nr52 _ _).trans bootBlock_statusByte
  · obtain ⟨p, hp, rfl⟩ := List.mem_map.mp hw
    exact (busRead_addr _ _ _).trans (bootBlock_readCtrl p hp)

/-- Settles O35: each register of the post-boot state reads back as the byte the boot list wrote to it. -/
theorem resetReadsBackDefaults : Obligations.ResetReadsBackDefaults := by
  unfold Obligations.ResetReadsBackDefaults
  refine ⟨bootReadsBack_params, fun s => ⟨{ s with apu := bootBlock }, congrArg s.commit resetBlock_boot, ?_, ?_⟩⟩
  · exact fun x v hxv => (exec_ofRead x _).trans
      (congrArg (fun b => State.reply _ (.byte b)) (bootBlock_readCtrl (x, v) hxv))
  · exact (exec_rdNr52 _).trans (congrArg (fun b => State.reply _ (.byte b)) bootBlock_statusByte)

/-! ### The ports -/

theorem portRefusal_base {p : PortIn} (hb : p.model = .base) (hone : (p.wr && p.rd) = false) :
    portRefusal p = none := by
  rw [portRefusal, refusedModel_of_base hb, hone]
  rfl

theorem portRefusal_overlap {p : PortIn} (hb : p.model = .base) (hboth : (p.wr && p.rd) = true) :
    portRefusal p = some .portOverlap := by
  rw [portRefusal, refusedModel_of_base hb, hboth]
  rfl

theorem portRefusal_extended {p : PortIn} (he : p.model = .extended) : portRefusal p = some .modelExtended := by
  rw [portRefusal, he]
  rfl

theorem port_of_refusal {p : PortIn} {r : Refusal} (h : portRefusal p = some r) (s : State) :
    portEdge p s = .refused r ∧ portOut p s = .error r := by
  rw [portEdge, portOut, h]
  exact ⟨rfl, rfl⟩

theorem portEdge_eq {p : PortIn} (h : portRefusal p = none) (s : State) : portEdge p s = runOps (portOps p) s := by
  rw [portEdge, h]

theorem portOut_eq {p : PortIn} (h : portRefusal p = none) (s : State) : portOut p s =
    .ok ⟨if p.rd then some (busRead Config.params p.addr s.apu) else none, s.apu.left, s.apu.right⟩ := by
  rw [portOut, h]

theorem runOps_cons {i : Instr} {s t : State} (h : exec i s = .next t) (l : List Instr) :
    runOps (i :: l) s = runOps l t := by
  rw [runOps, h]

/-- One operation runs as itself. -/
theorem runOps_singleton (i : Instr) (s : State) : runOps [i] s = exec i s := by
  obtain ⟨a, l, h, -⟩ := exec_completes i s
  rw [runOps_cons h, h]
  rfl

/-- A `RD` answers what the bus reads. -/
theorem exec_readInstr (a : Addr) (s : State) :
    exec (readInstr a) s = s.reply (.byte (busRead Config.params a s.apu)) := by
  rw [busRead]
  cases ht : targetOf a with
  | wave k => rw [readInstr_wave ht]; rfl
  | nr52 => rw [readInstr_nr52 ht]; rfl
  | ctrl x => rw [readInstr_ctrl ht]; exact exec_ofRead x s
  | unmapped => rw [readInstr_unmapped ht]; rfl

/-- Settles O60. -/
theorem portEdgeRunsOperations : Obligations.PortEdgeRunsOperations := by
  unfold Obligations.PortEdgeRunsOperations
  refine ⟨fun p s hb hone => ?base, fun p s he => port_of_refusal (portRefusal_extended he) s,
    fun p s hb hboth => port_of_refusal (portRefusal_overlap hb hboth) s⟩
  have hnone := portRefusal_base hb hone
  rw [portEdge_eq hnone, portOut_eq hnone]
  refine ⟨fun hrst => ?reset, fun hrst hwr => ?step, fun hrst hwr => ?write, fun hrd => ?read, fun hrd => ?idle⟩
  case reset => rw [portOps, hrst, if_pos rfl, runOps_singleton]
  case step => rw [portOps, hrst, hwr, if_neg Bool.false_ne_true, if_neg Bool.false_ne_true, runOps_singleton]
  case write =>
    obtain ⟨a, l, h, -⟩ := exec_completes (writeInstr p.addr p.wdata) s
    refine ⟨_, h, ?_⟩
    rw [portOps, hrst, hwr, if_neg Bool.false_ne_true, if_pos rfl, runOps_cons h, runOps_singleton]
  case read => exact ⟨_, by rw [hrd, if_pos rfl], exec_readInstr p.addr s⟩
  case idle => rw [hrd, if_neg Bool.false_ne_true]

end Sys2Proof.Machine
end
